-- ==== Sys2Proof/Word.lean ====
section
/-! DEFINITION. The widths of the MG4318: data words, link bytes, word addresses, and the numbers of its tables. -/

namespace Sys2Proof

/-- A word is 32 bits (spec/00_scope.md, section 6). -/
abbrev Word := BitVec 32

/-- A byte of the management link (R160). -/
abbrev Byte := BitVec 8

/-- A word-aligned byte address without its two low bits, which MTP does not carry (section 1.1): byte address = 4 times this. -/
abbrev WordAddr := BitVec 30

/-- A master tag, which is also a lane number (R1). -/
abbrev Tag := Fin 16

/-- A window number (Table 4). -/
abbrev WindowNo := Fin 16

/-- A bank number (R30). -/
abbrev Bank := Fin 3

/-- A Hold Table index (section 3.1). -/
abbrev HoldNo := Fin 32

/-- A Fill Table index (section 4.1). -/
abbrev FillNo := Fin 16

/-- A Snapshot Store slot number (section 7.1). -/
abbrev SlotNo := Fin 8

end Sys2Proof
end

