-- ==== Sys2Proof/Syntax.lean ====
section
/-! DEFINITION. The commands of the MG4318: one constructor for each row of spec/opcode_table.json, with its operands. -/

namespace Sys2Proof

/-- One word of a WRITE: 32 data bits and four byte enables, bit j for byte j, byte 0 the least significant (Table 1-1). -/
structure WriteWord where
  data : Word
  enables : BitVec 4
  deriving DecidableEq, Repr

/-- Kind and contents of an MTP request (Table 1-1): READ with its length in words, or WRITE with its words. -/
inductive Body where
  | read (length : Nat)
  | write (words : List WriteWord)
  deriving DecidableEq, Repr

/-- Length of a request in words. -/
def Body.length : Body → Nat
  | .read n => n
  | .write ws => ws.length

/-- Beat status, OKAY or FAULT (Table 1-1). -/
inductive BeatStatus where
  | okay
  | fault
  deriving DecidableEq, Repr

/-- One beat of a downstream read response (Table 1-1). -/
structure MemBeat where
  data : Word
  status : BeatStatus
  deriving DecidableEq, Repr

/-- A downstream response (Table 1-1): the beats of a read in address order, or the one status of a write. -/
inductive MemResponse where
  | read (beats : List MemBeat)
  | write (status : BeatStatus)
  deriving DecidableEq, Repr

/-- The commands. Each docstring gives the row's mnemonic and the rule it is specified in. A management frame carries
its bytes after byte 0: arguments and check byte as they arrived, right or wrong (R161). -/
inductive Instr where
  /-- REQUEST_ARRIVAL (R1). -/
  | requestArrival (m : Tag) (addr : WordAddr) (body : Body)
  /-- SEGMENT_OFFER (R14), of the head of lane m. -/
  | segmentOffer (m : Tag)
  /-- LANE_SEGMENT_GRANT (R13, R19): the arbiter chooses the lane. -/
  | laneSegmentGrant
  /-- COPY_REQUEST_GRANT (R124): the oldest-created copy request. -/
  | copyRequestGrant
  /-- PARK_RELEASE_GRANT (R101): the earliest RELEASED entry. -/
  | parkReleaseGrant
  /-- SEGMENT_RESPONSE (R17). -/
  | segmentResponse (resp : MemResponse)
  /-- COPY_RESPONSE (R129, R130). -/
  | copyResponse (beats : List MemBeat)
  /-- PARK_RELEASE_RESPONSE (R105). -/
  | parkReleaseResponse (status : BeatStatus)
  /-- STRAY_RESPONSE (R18). -/
  | strayResponse (resp : MemResponse)
  /-- RESPONSE_DELIVERY (R7): the granted lane's response is accepted. -/
  | responseDelivery
  /-- TICK (R136). -/
  | tick
  /-- HOLD_EXPIRED (R60), of Hold Table entry i. -/
  | holdExpired (i : HoldNo)
  /-- LINGER_EXPIRY (R65), of Hold Table entry i. -/
  | lingerExpiry (i : HoldNo)
  /-- FILL_EXPIRY (R83), of Fill Table entry f. -/
  | fillExpiry (f : FillNo)
  /-- DRAIN_COUNTDOWN_EXPIRY (R174), of window w. -/
  | drainCountdownExpiry (w : WindowNo)
  /-- ALERT_AGE_EXPIRY (R155). -/
  | alertAgeExpiry
  /-- SWEEP_START (R141). -/
  | sweepStart
  /-- SWEEP_VISIT (R142). -/
  | sweepVisit
  /-- DRAIN_COMPLETION (R173), of window w. -/
  | drainCompletion (w : WindowNo)
  /-- FRAME_START (R160): CS_N falls. -/
  | frameStart
  /-- FRAME_ABORT (R160): CS_N rises after the whole bytes given and `bits` bits of one more. -/
  | frameAbort (bytes : List Byte) (bits : Fin 8)
  /-- UNKNOWN_COMMAND (R161): a frame whose byte 0 is `code`. -/
  | unknownCommand (code : Byte) (rest : List Byte)
  /-- IDENTIFY (R166). -/
  | identify (rest : List Byte)
  /-- STATUS (R166). -/
  | status (rest : List Byte)
  /-- READ_WINDOW (R24). -/
  | readWindow (rest : List Byte)
  /-- WRITE_WINDOW (R24). -/
  | writeWindow (rest : List Byte)
  /-- ENABLE_WINDOW (R32). -/
  | enableWindow (rest : List Byte)
  /-- DISABLE_WINDOW (R171). -/
  | disableWindow (rest : List Byte)
  /-- READ_RECORD (R42). -/
  | readRecord (rest : List Byte)
  /-- WRITE_RECORD (R43). -/
  | writeRecord (rest : List Byte)
  /-- READ_HOLD (R68). -/
  | readHold (rest : List Byte)
  /-- BREAK_HOLDS (R62). -/
  | breakHolds (rest : List Byte)
  /-- READ_EVENTS (R153). -/
  | readEvents (rest : List Byte)
  /-- READ_COUNTERS (R157). -/
  | readCounters (rest : List Byte)
  /-- CLEAR_COUNTERS (R157). -/
  | clearCounters (rest : List Byte)
  /-- SET_TIMEBASE (R137). -/
  | setTimebase (rest : List Byte)
  /-- READ_TIMEBASE (R137). -/
  | readTimebase (rest : List Byte)
  /-- SET_EVENT_CONTROL (R150). -/
  | setEventControl (rest : List Byte)
  /-- SOFT_RESET (R170). -/
  | softReset (rest : List Byte)
  /-- FETCH (R164): byte 1 and the further bytes clocked. -/
  | fetch (rest : List Byte)
  /-- PIN_RESET (R20): RESET_N low, or power-on. -/
  | pinReset
  /-- RESET_RELEASE (R165): RESET_N rises. -/
  | resetRelease
  deriving DecidableEq, Repr

end Sys2Proof
end

