-- ==== Sys2Proof/Config.lean ====
section
/-! DEFINITION. The capacities the manual fixes (spec/00_scope.md, Table 4) and the free values it leaves open. -/

namespace Sys2Proof.Config

/-- Lane depth (R1). -/
def laneDepth : Nat := 4

/-- Longest burst in words (section 1.1). -/
def maxBurst : Nat := 16

/-- Downstream requests in flight (R16). -/
def maxInFlight : Nat := 8

/-- Word addresses of the 32-bit byte address space (R4, R33). -/
def addressSpace : Nat := 2 ^ 30

/-- Entries of the Record Directory (section 2.6). -/
def directorySize : Nat := 4096

/-- Places of the Park Queue (section 5.2). -/
def parkCapacity : Nat := 64

/-- Places of the Event Queue (section 9.3). -/
def eventCapacity : Nat := 64

/-- Linger of a broken hold whose window has a hold limit of 0 (R22). -/
def zeroLimitLinger : BitVec 16 := 4096

/-- FREE VALUE (log 3). Which of several due steps is taken first when no command has named one;
the argument is a fresh number from `State.freeCount`. The manual orders none of them (R75, R138). -/
opaque dueChoice : Nat → Nat

/-- FREE VALUE (log 10). Where, in the order of one event's reports, the next one stands:
a fresh number from `State.freeCount`, then how many are already placed (R95, R115, R140, R175). -/
opaque orderChoice : Nat → Nat → Nat

/-- FREE VALUE (log 8). The byte MISO carries in a frame that begins with the FETCH code and has a bad check
byte: a fresh number from `State.freeCount`, then the position after byte 1 (R164 does not state it). -/
opaque misoAfterBadCheck : Nat → Nat → Byte

end Sys2Proof.Config
end

