-- ==== Sys2Proof/Machine/State.lean ====
section
/-! DEFINITION. The state of the MG4318 as plain data, and the state after reset. -/

namespace Sys2Proof.Machine

/-- Why the machine stops with a fault. -/
inductive Fault where
  /-- Raised by SEGMENT_RESPONSE and COPY_RESPONSE when memory's response is not of the kind and length of the oldest
  request in flight: R15 requires one response for each request, and the manual says nothing of any other. SAFE: the
  hardware goes on in some way, the model makes no claim (log 15). -/
  | malformedResponse
  deriving DecidableEq, Repr

/-- Why the machine has no meaning for a command. -/
inductive Refusal where
  /-- An arm of `exec` that has no meaning yet. SAFE. -/
  | notModelled (mnemonic : String)
  /-- Raised by REQUEST_ARRIVAL, FRAME_ABORT and UNKNOWN_COMMAND on operands that `Instr.wellFormed` refuses: a request
  of no or more than 16 words "cannot be presented" (section 1.1), an abort at a byte boundary is no abort (R160), a
  known code is no unknown command (R161). SAFE (log 16). -/
  | illFormed
  deriving DecidableEq, Repr

/-! ### Responses and lanes (chapter 1) -/

/-- Guard status of a returned word (R48). -/
inductive GuardStatus where
  | held
  | plain
  | torn
  | denied
  deriving DecidableEq, Repr

/-- One beat of an upstream read response (Table 1-1). -/
structure Beat where
  data : Word
  status : BeatStatus
  guard : GuardStatus
  deriving DecidableEq, Repr

/-- What has become of one word of a request (R5, R6): untaken; taken and issued, with the guard status fixed at the
take; or answered. For a word of a write, `done` carries its segment's outcome in the beat status. -/
inductive WordState where
  | untaken
  | pending (guard : GuardStatus)
  | done (beat : Beat)
  deriving DecidableEq, Repr

/-- A request in a lane (R1): the place it occupies (R17's identity of the request), its contents, and its words' fates. -/
structure Request where
  place : Fin 4
  addr : WordAddr
  body : Body
  words : List WordState
  deriving DecidableEq, Repr

/-- Why the segment at a lane head stalls; it says on which events the segment is re-offered. -/
inductive Stall where
  /-- A lead read behind an open fill of the record, in SINGLE and SNAP windows (R92, R125). -/
  | behindFill (w : WindowNo) (r : Nat)
  /-- A write of the owner behind its own closing fill (R72, R78). -/
  | closingFill (w : WindowNo) (r : Nat)
  /-- A write that would open a fill while the Fill Table is full (R75). -/
  | fillTable
  /-- A write that would be parked while the Park Queue lacks room (R100). -/
  | parkRoom (w : WindowNo) (r : Nat)
  /-- A write that would open a fill of a SNAP record with an unissued copy (R127). -/
  | unissuedCopy (w : WindowNo) (r : Nat)
  /-- An access that would begin a hold or a fill of a DRAINING window (R172). -/
  | draining
  deriving DecidableEq, Repr

/-- What the first untaken segment of a lane does (R5, R13, R14, R125). -/
inductive HeadPhase where
  /-- The lane has no untaken word. -/
  | idle
  /-- The segment is to be offered, or offered again, to its owner. -/
  | toOffer
  /-- Its fate is issue: the lane is a candidate of the Issue Arbiter. -/
  | candidate
  /-- Its owner's decision was to stall. -/
  | stalled (why : Stall)
  /-- The next `length` untaken words are a SNAP lead read bound to its copy request. -/
  | bound (length : Nat)
  deriving DecidableEq, Repr

/-- A lane (R1, R5): its requests oldest first, the head's phase, and the notes of reported stalls (R75, R100). -/
structure Lane where
  reqs : List Request
  nextPlace : Fin 4
  phase : HeadPhase
  exhaustedNoted : Bool
  parkFullNoted : Bool
  deriving DecidableEq, Repr

/-- An upstream response as delivered (Table 1-1): the beats of a read, or the one status of a write. -/
inductive UpResponse where
  | read (master : Tag) (beats : List Beat)
  | write (master : Tag) (status : BeatStatus)
  deriving DecidableEq, Repr

/-! ### Windows and directory (chapter 2) -/

inductive Mode where
  | single
  | banked
  | snap
  deriving DecidableEq, Repr

/-- The master allowed to write guard words (R31). -/
inductive Producer where
  | master (m : Tag)
  | any
  deriving DecidableEq, Repr

inductive YieldPolicy where
  | readersFirst
  | writerFirst
  deriving DecidableEq, Repr

inductive FreshMode where
  | off
  | once
  | repeating
  deriving DecidableEq, Repr

inductive StalePolicy where
  | pass
  | fault
  deriving DecidableEq, Repr

/-- OPEN or PROTECTED (R12). -/
inductive BankGuard where
  | openGuard
  | protectedGuard
  deriving DecidableEq, Repr

/-- The configured fields of a window (Table 2-1), over their stored ranges. -/
structure WinConfig where
  mode : Mode
  bankCount : BitVec 8
  faceBase : WordAddr
  size : BitVec 8
  guardLen : BitVec 8
  count : BitVec 16
  dirStart : BitVec 16
  bank0 : WordAddr
  bank1 : WordAddr
  bank2 : WordAddr
  producer : Producer
  yieldPolicy : YieldPolicy
  holdLimit : BitVec 16
  fillLimit : BitVec 16
  drainLimit : BitVec 16
  freshMode : FreshMode
  period : BitVec 32
  firstDeadline : BitVec 32
  stalePolicy : StalePolicy
  bankGuard : BankGuard
  deriving DecidableEq, Repr

/-- State of a window (Table 2-2). The drain fields exist only while DRAINING (Table 2-1). -/
inductive WinState where
  | off
  | live
  | draining (countdown : BitVec 16) (forced : Bool)
  deriving DecidableEq, Repr

/-- A Window Table entry (R22): state, configured fields, live fields. -/
structure Window where
  state : WinState
  cfg : WinConfig
  curDeadline : BitVec 32
  curFresh : FreshMode
  deriving DecidableEq, Repr

/-- A Record Directory entry (R38). -/
structure DirEntry where
  activeBank : Bank
  version : BitVec 16
  fresh : Bool
  stale : Bool
  damaged : Bool
  publishedAt : BitVec 32
  deriving DecidableEq, Repr

/-- The entry pin reset leaves (R44): what an unlisted index of the directory holds. -/
def DirEntry.cleared : DirEntry := ⟨0, 0, false, false, false, 0⟩

/-! ### Holds, fills, parked words, slots (chapters 3 to 7) -/

inductive HoldState where
  | free
  | copying
  | opened
  | broken
  deriving DecidableEq, Repr

/-- Why a hold was broken (R59). -/
inductive BreakReason where
  | expired
  | yielded
  | drain
  | management
  deriving DecidableEq, Repr

/-- A Hold Table entry (R45). Bit j of the coverage stands for guard word j. -/
structure Hold where
  state : HoldState
  master : Tag
  window : WindowNo
  record : Nat
  versionSeen : BitVec 16
  damagedAtOpen : Bool
  pinnedBank : Option Bank
  slot : Option SlotNo
  coverage : BitVec 16
  countdown : BitVec 16
  reason : Option BreakReason
  leftService : Bool
  deriving DecidableEq, Repr

/-- A FREE entry in its cleared form (R45). -/
def Hold.cleared : Hold := ⟨.free, 0, 0, 0, 0, false, none, none, 0, 0, none, false⟩

inductive FillState where
  | free
  | waiting
  | active
  deriving DecidableEq, Repr

/-- A Fill Table entry (R70). -/
structure Fill where
  state : FillState
  owner : Tag
  window : WindowNo
  record : Nat
  generation : BitVec 8
  target : Option Bank
  coverage : BitVec 16
  parked : Nat
  countdown : BitVec 16
  writeFaulted : Bool
  abandoned : Bool
  deriving DecidableEq, Repr

/-- A FREE entry in its cleared form, which keeps its generation (R70). -/
def Fill.cleared (generation : BitVec 8) : Fill := ⟨.free, 0, 0, 0, generation, none, 0, 0, 0, false, false⟩

/-- A fill named by its entry and the generation that tells it from later ones (R70). -/
structure FillRef where
  index : FillNo
  generation : BitVec 8
  deriving DecidableEq, Repr

/-- PARKED, or RELEASED with the release address fixed then (Table 5-2). -/
inductive ParkCondition where
  | parked
  | released (addr : WordAddr)
  deriving DecidableEq, Repr

/-- A Park Queue entry (R98). -/
structure ParkEntry where
  fill : Option FillRef
  master : Tag
  window : WindowNo
  record : Nat
  dirIndex : Nat
  offset : Nat
  word : WriteWord
  condition : ParkCondition
  deriving DecidableEq, Repr

/-- A Snapshot Store slot (R123). -/
inductive Slot where
  | free
  | awaiting (hold : HoldNo) (count : Nat)
  | loaded (hold : HoldNo) (count : Nat) (words : List Word)
  deriving DecidableEq, Repr

/-- A copy request not yet issued (R124). -/
structure CopyRequest where
  slot : SlotNo
  hold : HoldNo
  window : WindowNo
  record : Nat
  master : Tag
  addr : WordAddr
  length : Nat
  deriving DecidableEq, Repr

/-! ### The Downstream Port (section 1.5) -/

/-- A downstream request (Table 1-1). -/
structure DownRequest where
  addr : WordAddr
  body : Body
  deriving DecidableEq, Repr

/-- Where in the lanes a response belongs (R17). -/
structure LanePos where
  lane : Tag
  place : Fin 4
  first : Nat
  length : Nat
  deriving DecidableEq, Repr

/-- What an in-flight guard read keeps: window, record and any hold entry it was taken under (R17). -/
structure GuardReadOrigin where
  window : WindowNo
  record : Nat
  hold : Option HoldNo
  deriving DecidableEq, Repr

/-- What an in-flight guard write keeps: window, record, directory entry, fill and generation (R17). -/
structure GuardWriteOrigin where
  window : WindowNo
  record : Nat
  dirIndex : Nat
  fill : FillRef
  deriving DecidableEq, Repr

/-- The origin kept with an in-flight entry (R17). The overlay of an own-view read is one word with its byte mask per
word of the segment (R103). -/
inductive Origin where
  | laneRead (pos : LanePos) (guard : Option GuardReadOrigin) (overlay : List WriteWord)
  | laneWrite (pos : LanePos) (guard : Option GuardWriteOrigin)
  | copy (slot : SlotNo) (hold : HoldNo) (window : WindowNo) (record : Nat) (master : Tag) (orphan : Bool)
  | release (fill : Option FillRef) (window : WindowNo) (record : Nat) (dirIndex : Nat) (master : Tag) (offset : Nat)
  deriving DecidableEq, Repr

/-- An entry of the in-flight list (R16, R17). -/
structure InFlight where
  req : DownRequest
  origin : Origin
  deriving DecidableEq, Repr

/-! ### Time base and freshness (chapter 8) -/

inductive RunState where
  | stopped
  | running
  deriving DecidableEq, Repr

/-- The time base (R136). -/
structure TimeBase where
  value : BitVec 32
  prescaler : BitVec 4
  run : RunState
  deriving DecidableEq, Repr

/-- The running sweep (R141). -/
structure Sweep where
  window : WindowNo
  next : Nat
  staleCount : Nat
  firstStale : Option Nat
  deriving DecidableEq, Repr

/-! ### Events and counters (chapter 9) -/

/-- The event kinds in the order of Table 9-2. -/
inductive EventKind where
  | holdExpired
  | holdYielded
  | holdDenied
  | copyFault
  | fillPublished
  | fillAbandoned
  | fillConflict
  | foreignWrite
  | bankAccess
  | parkFull
  | fillExhausted
  | parkedWriteFault
  | fillWriteFault
  | staleRead
  | sweepOverrun
  | staleSweep
  | drainDone
  | drainForced
  | lost
  deriving DecidableEq, Repr

/-- The resource a denied hold lacked (R149). -/
inductive Resource where
  | entry
  | slot
  | both
  deriving DecidableEq, Repr

/-- An event record (R149). -/
structure EventRecord where
  kind : EventKind
  window : Option WindowNo
  record : Option Nat
  master : Option Tag
  resource : Option Resource
  stamp : BitVec 32
  detail : BitVec 16
  deriving DecidableEq, Repr

/-- The event control (R150). Bit k - 1 of the stored-kinds set stands for kind code k (R169). -/
structure EventControl where
  stored : BitVec 18
  threshold : Nat
  latency : BitVec 16
  deriving DecidableEq, Repr

/-- Event Queue oldest first, lost count and stamp, event control, alert age countdown (sections 9.2 to 9.4). -/
structure EventUnit where
  queue : List EventRecord
  lost : BitVec 16
  lostStamp : Option (BitVec 32)
  control : EventControl
  age : BitVec 16
  deriving DecidableEq, Repr

/-- The six counters of one window (Table 9-4). -/
structure Counters where
  holdsOpened : BitVec 32
  holdsBroken : BitVec 32
  holdsDenied : BitVec 32
  fillsPublished : BitVec 32
  fillsAbandoned : BitVec 32
  writesParked : BitVec 32
  deriving DecidableEq, Repr

def Counters.zero : Counters := ⟨0, 0, 0, 0, 0, 0⟩

/-! ### Management link (chapter 10) -/

inductive Receiver where
  | idle
  | receiving
  deriving DecidableEq, Repr

/-- Results of a frame (R163). -/
inductive FrameResult where
  | none
  | accepted
  | rejected
  | lengthError
  | checkFailed
  | unknownCommand
  deriving DecidableEq, Repr

/-- A stored response (R163). Its check byte is computed from the other parts. -/
structure Response where
  result : FrameResult
  command : Byte
  data : List Byte
  deriving DecidableEq, Repr

/-- The link: the level of CS_N, the frame receiver, the Response Holder, and the bytes MISO carried in the last frame. -/
structure Link where
  csLow : Bool
  receiver : Receiver
  holder : Option Response
  miso : List Byte
  deriving DecidableEq, Repr

/-! ### The whole -/

structure State where
  /-- RESET_N is low (R20). -/
  resetLow : Bool
  lanes : Vector Lane 16
  /-- Last lane granted of the Issue Arbiter (R19). -/
  lastIssueLane : Tag
  /-- Last lane granted of the upstream response arbiter (R7). -/
  lastResponseLane : Tag
  /-- The lane that holds the upstream response grant (R7). -/
  responseGrant : Option Tag
  inFlight : List InFlight
  windows : Vector Window 16
  /-- The entries of the Record Directory that differ from the cleared one, by rising index. -/
  directory : List (Nat × DirEntry)
  holds : Vector Hold 32
  fills : Vector Fill 16
  park : List ParkEntry
  slots : Vector Slot 8
  /-- Copy requests not yet issued, oldest-created first (R124). -/
  copies : List CopyRequest
  timeBase : TimeBase
  /-- The pending-sweep set: bit w for window w (R140). -/
  pendingSweeps : BitVec 16
  sweep : Option Sweep
  events : EventUnit
  counters : Vector Counters 16
  /-- ALERT_N is driven low (R154). -/
  alertLow : Bool
  link : Link
  /-- The last upstream response delivered. -/
  delivered : Option UpResponse
  /-- The model's own field: how many free values have been drawn (log 9). -/
  freeCount : Nat
  /-- The commands that wait, first in, first out. -/
  pending : List Instr
  deriving DecidableEq, Repr

/-! ### Reset values -/

/-- An empty lane (R20). -/
def Lane.empty : Lane := ⟨[], 0, .idle, false, false⟩

/-- The zero value of the configured fields (R26). -/
def WinConfig.zero : WinConfig :=
  { mode := .single, bankCount := 0, faceBase := 0, size := 0, guardLen := 0, count := 0, dirStart := 0, bank0 := 0,
    bank1 := 0, bank2 := 0, producer := .master 0, yieldPolicy := .readersFirst, holdLimit := 0, fillLimit := 0,
    drainLimit := 0, freshMode := .off, period := 0, firstDeadline := 0, stalePolicy := .pass, bankGuard := .openGuard }

/-- A Window Table entry after pin reset (R25, R26). -/
def Window.zero : Window := ⟨.off, .zero, 0, .off⟩

/-- Event control after pin reset (R158): every kind but FILL_PUBLISHED (kind code 5, bit 4), threshold 1, latency 0. -/
def EventControl.initial : EventControl := ⟨0x3FFEF, 1, 0⟩

/-- The Event Unit after pin reset (R158). -/
def EventUnit.initial : EventUnit := ⟨[], 0, none, .initial, 0⟩

/-- The machine right after reset: RESET_N has been low and has risen again (R20, R26, R44, R69, R89, R106, R134,
R147, R158, R165). `link.csLow`, `link.miso`, `delivered`, the places and `freeCount` are the model's choice (log 9,
11, 13, 14). -/
def State.reset : State :=
  { resetLow := false
    lanes := .replicate 16 .empty
    lastIssueLane := 15
    lastResponseLane := 15
    responseGrant := none
    inFlight := []
    windows := .replicate 16 .zero
    directory := []
    holds := .replicate 32 .cleared
    fills := .replicate 16 (.cleared 0)
    park := []
    slots := .replicate 8 .free
    copies := []
    timeBase := ⟨0, 8, .running⟩
    pendingSweeps := 0
    sweep := none
    events := .initial
    counters := .replicate 16 .zero
    alertLow := false
    link := ⟨false, .idle, none, []⟩
    delivered := none
    freeCount := 0
    pending := [] }

end Sys2Proof.Machine
end

