-- ==== Sys2Proof/Machine/Tables.lean ====
section
/-! DEFINITION. Operations shared by all tables of fixed size, the Record Directory's list, and orders the manual
leaves open. -/

namespace Sys2Proof.Machine

/-- Every entry of a table changed by its index and contents. -/
def tableMap {α β : Type} {n : Nat} (f : Fin n → α → β) (v : Vector α n) : Vector β n :=
  ⟨((List.finRange n).map fun i => f i v[i]).toArray, by simp⟩

/-- The lowest-numbered entry with a property. -/
def tableFind {α : Type} {n : Nat} (p : α → Bool) (v : Vector α n) : Option (Fin n) :=
  (List.finRange n).find? fun i => p v[i]

/-- All entries with a property, lowest-numbered first. -/
def tableAll {α : Type} {n : Nat} (p : α → Bool) (v : Vector α n) : List (Fin n) :=
  (List.finRange n).filter fun i => p v[i]

/-- Contents of directory entry i: the listed one, else the cleared entry (R44). -/
def dirGet : List (Nat × DirEntry) → Nat → DirEntry
  | [], _ => .cleared
  | (k, e) :: rest, i => if k = i then e else dirGet rest i

/-- Directory entry i set to e, in the canonical form: rising indexes, no entry equal to the cleared one. -/
def dirPut (i : Nat) (e : DirEntry) : List (Nat × DirEntry) → List (Nat × DirEntry)
  | [] => if e = .cleared then [] else [(i, e)]
  | (k, x) :: rest =>
    if i < k then (if e = .cleared then (k, x) :: rest else (i, e) :: (k, x) :: rest)
    else if i = k then (if e = .cleared then rest else (i, e) :: rest)
    else (k, x) :: dirPut i e rest

/-- Every listed entry changed by its index; entries that become the cleared one leave the list. The change must keep
the cleared entry as it is, since unlisted entries are not visited. -/
def dirMap (f : Nat → DirEntry → DirEntry) (d : List (Nat × DirEntry)) : List (Nat × DirEntry) :=
  (d.map fun (k, e) => (k, f k e)).filter fun (_, e) => decide (e ≠ .cleared)

/-- The canonical form of the directory's list. -/
def dirWf (d : List (Nat × DirEntry)) : Prop :=
  d.Pairwise (fun a b => a.1 < b.1) ∧ ∀ p ∈ d, p.2 ≠ .cleared

/-- `x` put in at position `k`. -/
def insertAt {α : Type} (x : α) (k : Nat) (xs : List α) : List α := xs.take k ++ x :: xs.drop k

/-- The list in an order the manual does not fix: each element stands where a free value puts it (log 10). -/
def freeOrder {α : Type} (seed : Nat) : List α → List α
  | [] => []
  | [x] => [x]
  | x :: y :: rest =>
    let tail := freeOrder seed (y :: rest)
    insertAt x (Config.orderChoice seed tail.length % (tail.length + 1)) tail

/-- Lanes in the order of a round robin, the lane after the last one granted first, counting from 15 round to 0 (R7, R19). -/
def roundRobin (last : Tag) : List Tag := (List.finRange 16).map fun k => last + 1 + k

end Sys2Proof.Machine
end

