-- ==== Sys2Proof/Machine/Operands.lean ====
section
/-! DEFINITION. The Window Decoder (section 1.3) and the address arithmetic of faces and banks (section 2.3).
Addresses are word addresses, taken as natural numbers while they are computed (log 21). -/

namespace Sys2Proof.Machine

namespace WinConfig

/-- Words of the face, and of each bank range: N × S (R29, R30). -/
def words (c : WinConfig) : Nat := c.count.toNat * c.size.toNat

/-- Base of bank k (R30). -/
def bankBase (c : WinConfig) (k : Bank) : WordAddr :=
  if k = 0 then c.bank0 else if k = 1 then c.bank1 else c.bank2

/-- The banks a window uses: the first bank-count of them in BANKED mode, none in the others (R23, R30). -/
def usedBanks (c : WinConfig) : List Bank :=
  if c.mode = .banked then (List.finRange 3).filter fun k => decide (k.val < c.bankCount.toNat) else []

/-- Word j of record r in the face (R29). -/
def faceWord (c : WinConfig) (r j : Nat) : WordAddr := .ofNat 30 (c.faceBase.toNat + (r * c.size.toNat + j))

/-- Word j of record r in bank k (R30). -/
def bankWord (c : WinConfig) (k : Bank) (r j : Nat) : WordAddr :=
  .ofNat 30 ((c.bankBase k).toNat + (r * c.size.toNat + j))

/-- Directory entry of record r (R29). -/
def dirIndex (c : WinConfig) (r : Nat) : Nat := c.dirStart.toNat + r

/-- Directory entry i lies in the window's run (R29). -/
def ownsEntry (c : WinConfig) (i : Nat) : Bool :=
  decide (c.dirStart.toNat ≤ i) && decide (i < c.dirStart.toNat + c.count.toNat)

/-- Linger of a broken hold (R22). -/
def linger (c : WinConfig) : BitVec 16 := if c.holdLimit = 0 then Config.zeroLimitLinger else c.holdLimit

end WinConfig

/-- A window is decoded while LIVE or DRAINING (R28). -/
def Window.decoded (w : Window) : Bool :=
  match w.state with
  | .off => false
  | .live => true
  | .draining _ _ => true

/-- A window is DRAINING. -/
def Window.isDraining (w : Window) : Bool :=
  match w.state with
  | .off => false
  | .live => false
  | .draining _ _ => true

/-- Class of a word, with the identity its segment shares (Table 1-3). -/
inductive WordClass where
  | outside
  | faceGuard (w : WindowNo) (r : Nat)
  | facePlain (w : WindowNo) (r : Nat)
  | bankRange (w : WindowNo) (k : Bank)
  deriving DecidableEq, Repr

/-- Address a lies in a range of n words from base. -/
def inRange (base n a : Nat) : Bool := decide (base ≤ a) && decide (a < base + n)

/-- The class window w gives the word at address a, if it lies in one of its decoded ranges (R8, R28). -/
def classifyIn (w : WindowNo) (win : Window) (a : Nat) : Option WordClass :=
  if win.decoded then
    let c := win.cfg
    if inRange c.faceBase.toNat c.words a then
      let x := a - c.faceBase.toNat
      if x % c.size.toNat < c.guardLen.toNat then some (.faceGuard w (x / c.size.toNat))
      else some (.facePlain w (x / c.size.toNat))
    else (c.usedBanks.find? fun k => inRange (c.bankBase k).toNat c.words a).map (.bankRange w)
  else none

/-- Class of the word at address a (R8). Decoded ranges do not overlap (R34), so at most one window claims it. -/
def classify (ws : Vector Window 16) (a : Nat) : WordClass :=
  ((List.finRange 16).findSome? fun w => classifyIn w ws[w] a).getD .outside

/-- How many of the next n words from address a share class c. -/
def runLength (ws : Vector Window 16) (c : WordClass) (a : Nat) : Nat → Nat
  | 0 => 0
  | n + 1 => if classify ws a = c then 1 + runLength ws c (a + 1) n else 0

/-! ### Requests -/

def WordState.isTaken : WordState → Bool
  | .untaken => false
  | .pending _ => true
  | .done _ => true

def WordState.isDone : WordState → Bool
  | .untaken => false
  | .pending _ => false
  | .done _ => true

namespace Request

/-- Words are taken in address order (R5), so the taken ones stand first. -/
def takenCount (q : Request) : Nat := (q.words.takeWhile WordState.isTaken).length

def allTaken (q : Request) : Bool := q.words.all WordState.isTaken

/-- COMPLETE: every word has its beat, every segment its outcome (R6). -/
def complete (q : Request) : Bool := q.words.all WordState.isDone

/-- The last word would lie beyond FFFFFFFCh (R4). -/
def wraps (q : Request) : Bool := decide (Config.addressSpace < q.addr.toNat + q.words.length)

end Request

/-- The head of a lane: the oldest request with untaken words (Table 1-2). -/
def Lane.head (l : Lane) : Option Request := l.reqs.find? fun q => !q.allTaken

/-- A segment (R8): the position of its first word in the request, its length in words, its class. -/
structure Segment where
  first : Nat
  length : Nat
  cls : WordClass
  deriving DecidableEq, Repr

/-- The first untaken segment of a request: the maximal run of words of one class and identity (R8). -/
def firstSegment (ws : Vector Window 16) (q : Request) : Option Segment :=
  let k := q.takenCount
  if k < q.words.length then
    let a := q.addr.toNat + k
    let c := classify ws a
    some ⟨k, 1 + runLength ws c (a + 1) (q.words.length - k - 1), c⟩
  else none

/-- Word address of a segment's first word. -/
def segmentAddr (q : Request) (g : Segment) : Nat := q.addr.toNat + g.first

/-- The write words of a segment. -/
def segmentWords (ws : List WriteWord) (g : Segment) : List WriteWord := (ws.drop g.first).take g.length

/-- The guard words a segment covers: window, record, first offset, length (section 3.2). -/
structure GuardSpan where
  window : WindowNo
  record : Nat
  offset : Nat
  length : Nat
  deriving DecidableEq, Repr

/-- The span of a guard segment of window w, record r, in a request (R29). -/
def guardSpan (c : WinConfig) (w : WindowNo) (r : Nat) (q : Request) (g : Segment) : GuardSpan :=
  ⟨w, r, (segmentAddr q g - c.faceBase.toNat) % c.size.toNat, g.length⟩

end Sys2Proof.Machine
end

