-- ==== Sys2Proof/Machine/Flags.lean ====
section
/-! DEFINITION. Guard statuses (R48), coverage sets (R56, R77), the alert conditions (R154), and the check byte (R162). -/

namespace Sys2Proof.Machine

/-- HELD, or TORN where the record or the hold is marked damaged (Table 3-3). -/
def heldOrTorn (damaged : Bool) : GuardStatus := if damaged then .torn else .held

/-- PLAIN, or TORN while the record is DAMAGED (Table 3-3, unguarded). -/
def plainOrTorn (damaged : Bool) : GuardStatus := if damaged then .torn else .plain

/-- The offsets a to a + n - 1 as a set of bits. -/
def offsetSet (a n : Nat) : BitVec 16 := .ofNat 16 ((2 ^ n - 1) * 2 ^ a)

/-- The coverage contains every guard word 0 to G - 1 (R57, R78). -/
def covers (guardLen : Nat) (coverage : BitVec 16) : Bool := coverage &&& offsetSet 0 guardLen == offsetSet 0 guardLen

/-- The words of a write segment from offset a that have all four byte enables set (R77). -/
def fullWrites (a : Nat) : List WriteWord → BitVec 16
  | [] => 0
  | x :: xs => (if x.enables = 0xF then offsetSet a 1 else 0) ||| fullWrites (a + 1) xs

/-- Bit w of a set of windows. -/
def hasBit (x : BitVec 16) (w : WindowNo) : Bool := x.getLsbD w.val

/-- A set of windows with w joined. -/
def joinBit (x : BitVec 16) (w : WindowNo) : BitVec 16 := x ||| BitVec.twoPow 16 w.val

/-- A set of windows with w removed. -/
def dropBit (x : BitVec 16) (w : WindowNo) : BitVec 16 := x &&& ~~~ BitVec.twoPow 16 w.val

/-- The age condition of ALERT_N (R154). -/
def EventUnit.ageCondition (u : EventUnit) : Bool :=
  decide (u.control.latency ≠ 0) && !u.queue.isEmpty && decide (u.age = 0)

/-- ALERT_N is to be driven low: the threshold condition or the age condition (R154). -/
def EventUnit.alertCondition (u : EventUnit) : Bool :=
  decide (u.control.threshold ≤ u.queue.length) || u.ageCondition

/-- One shift of the CRC: polynomial 07h when the bit shifted out is 1 (R162). -/
def crcShift (c : Byte) : Byte := if c.msb then (c <<< 1) ^^^ 0x07 else c <<< 1

/-- n shifts. -/
def crcShifts : Nat → Byte → Byte
  | 0, c => c
  | n + 1, c => crcShifts n (crcShift c)

/-- CRC-8 of a list of bytes, continued from c (R162). -/
def crcFrom (c : Byte) : List Byte → Byte
  | [] => c
  | b :: bs => crcFrom (crcShifts 8 (c ^^^ b)) bs

/-- The check byte of a list of bytes: initial value 00h (R162). -/
def checkByte (bs : List Byte) : Byte := crcFrom 0 bs

/-- A byte of memory's word replaced where the overlay has it (R88). -/
def overlayWord (m : Word) (o : WriteWord) : Word :=
  let mask : Word := (if o.enables.getLsbD 0 then 0x000000FF else 0) ||| (if o.enables.getLsbD 1 then 0x0000FF00 else 0)
    ||| (if o.enables.getLsbD 2 then 0x00FF0000 else 0) ||| (if o.enables.getLsbD 3 then 0xFF000000 else 0)
  (m &&& ~~~ mask) ||| (o.data &&& mask)

end Sys2Proof.Machine
end

