-- ==== Sys2Proof/Machine/Ops.lean ====
section
/-! DEFINITION. Named operations on the state: one home for each table, reports and counters (chapter 9), lanes
(section 1.2), recuts (R9) and issue (R16). -/

namespace Sys2Proof.Machine

/-! ### Tables -/

def State.setLane (m : Tag) (l : Lane) (s : State) : State := { s with lanes := s.lanes.set m l }
def State.setWindow (w : WindowNo) (x : Window) (s : State) : State := { s with windows := s.windows.set w x }
def State.setHold (i : HoldNo) (h : Hold) (s : State) : State := { s with holds := s.holds.set i h }
def State.setFill (f : FillNo) (x : Fill) (s : State) : State := { s with fills := s.fills.set f x }
def State.setSlot (k : SlotNo) (x : Slot) (s : State) : State := { s with slots := s.slots.set k x }
def State.setDir (i : Nat) (e : DirEntry) (s : State) : State := { s with directory := dirPut i e s.directory }

/-- Configured fields of window w. -/
def State.cfg (s : State) (w : WindowNo) : WinConfig := s.windows[w].cfg

/-- Directory entry of record r of window w (R29). -/
def State.dirEntry (s : State) (w : WindowNo) (r : Nat) : DirEntry := dirGet s.directory ((s.cfg w).dirIndex r)

/-- One free value drawn (log 9). -/
def State.drawn (s : State) : State := { s with freeCount := s.freeCount + 1 }

/-! ### Reports (sections 9.1 to 9.4) -/

/-- A report to the Event Unit. For a merging kind the detail is the repeat count 1 (R149). -/
structure Report where
  kind : EventKind
  window : Option WindowNo
  record : Option Nat
  master : Option Tag
  resource : Option Resource
  detail : BitVec 16
  deriving DecidableEq, Repr

/-- A report of a merging kind that names window, record and master (Table 9-2). -/
def Report.of (k : EventKind) (w : WindowNo) (r : Nat) (m : Tag) : Report := ⟨k, some w, some r, some m, none, 1⟩

/-- Code of a kind, 1 to 19 in the order of Table 9-2 (Table 10-6). -/
def EventKind.code : EventKind → Nat
  | .holdExpired => 1
  | .holdYielded => 2
  | .holdDenied => 3
  | .copyFault => 4
  | .fillPublished => 5
  | .fillAbandoned => 6
  | .fillConflict => 7
  | .foreignWrite => 8
  | .bankAccess => 9
  | .parkFull => 10
  | .fillExhausted => 11
  | .parkedWriteFault => 12
  | .fillWriteFault => 13
  | .staleRead => 14
  | .sweepOverrun => 15
  | .staleSweep => 16
  | .drainDone => 17
  | .drainForced => 18
  | .lost => 19

/-- Kinds that merge (Table 9-2). -/
def EventKind.merges : EventKind → Bool
  | .staleSweep => false
  | .drainDone => false
  | .drainForced => false
  | .lost => false
  | .holdExpired | .holdYielded | .holdDenied | .copyFault | .fillPublished | .fillAbandoned | .fillConflict
  | .foreignWrite | .bankAccess | .parkFull | .fillExhausted | .parkedWriteFault | .fillWriteFault | .staleRead
  | .sweepOverrun => true

/-- The kind is in the stored-kinds set; LOST is no member of it (R150). -/
def EventControl.stores (c : EventControl) (k : EventKind) : Bool := decide (k ≠ .lost) && c.stored.getLsbD (k.code - 1)

/-- One more, stopping at the maximum (R151, R152). -/
def saturate16 (x : BitVec 16) : BitVec 16 := if x = BitVec.allOnes 16 then x else x + 1

/-- One more, stopping at FFFFFFFFh (R156). -/
def saturate32 (x : BitVec 32) : BitVec 32 := if x = BitVec.allOnes 32 then x else x + 1

/-- The record of a report (R149). -/
def Report.toRecord (r : Report) (now : BitVec 32) : EventRecord :=
  ⟨r.kind, r.window, r.record, r.master, r.resource, now, r.detail⟩

/-- The report can merge into the record: same kind, window, record index and master (R151). -/
def Report.matches (r : Report) (e : EventRecord) : Bool :=
  decide (e.kind = r.kind) && decide (e.window = r.window) && decide (e.record = r.record) && decide (e.master = r.master)

/-- The record with a report merged into it: repeat count, and BOTH where the resources differ (R149, R151). -/
def mergeInto (r : Report) (e : EventRecord) : EventRecord :=
  { e with detail := saturate16 e.detail, resource := if e.resource = r.resource then e.resource else some .both }

namespace EventUnit

/-- Records appended at the tail; an append into an empty queue loads the alert age countdown (R155). -/
def append (u : EventUnit) (rs : List EventRecord) : EventUnit :=
  { u with queue := u.queue ++ rs, age := if u.queue.isEmpty then u.control.latency else u.age }

/-- The newest unread record, when the report merges into it (R151). -/
def mergeTarget (u : EventUnit) (r : Report) : Option EventRecord :=
  if r.kind.merges && decide (u.lost = 0) then u.queue.getLast?.filter r.matches else none

/-- LOST, made by the Event Unit itself (R152). -/
def lostRecord (u : EventUnit) : EventRecord := ⟨.lost, none, none, none, none, u.lostStamp.getD 0, u.lost⟩

/-- A report of a stored kind taken: merged (R151), appended, or dropped and counted (R152). -/
def enqueue (u : EventUnit) (now : BitVec 32) (r : Report) : EventUnit :=
  match u.mergeTarget r with
  | some e => { u with queue := u.queue.dropLast ++ [mergeInto r e] }
  | none =>
    let free := Config.eventCapacity - u.queue.length
    if u.lost = 0 then
      if 1 ≤ free then u.append [r.toRecord now]
      else { u with lost := 1, lostStamp := some now }
    else if 2 ≤ free then
      { u.append [u.lostRecord, r.toRecord now] with lost := 0, lostStamp := none }
    else { u with lost := saturate16 u.lost }

end EventUnit

/-- ALERT_N follows its conditions (R154). -/
def driveAlert (s : State) : State := { s with alertLow := s.events.alertCondition }

/-- A report taken by the Event Unit (R149 to R152); one whose kind is not stored changes nothing (R150). -/
def report (r : Report) (s : State) : State :=
  if s.events.control.stores r.kind then
    driveAlert { s with events := s.events.enqueue s.timeBase.value r }
  else s

/-! ### Counters (section 9.6) -/

/-- The six counters of a window (Table 9-4). -/
inductive CounterName where
  | holdsOpened
  | holdsBroken
  | holdsDenied
  | fillsPublished
  | fillsAbandoned
  | writesParked
  deriving DecidableEq, Repr

def Counters.bump (c : Counters) : CounterName → Counters
  | .holdsOpened => { c with holdsOpened := saturate32 c.holdsOpened }
  | .holdsBroken => { c with holdsBroken := saturate32 c.holdsBroken }
  | .holdsDenied => { c with holdsDenied := saturate32 c.holdsDenied }
  | .fillsPublished => { c with fillsPublished := saturate32 c.fillsPublished }
  | .fillsAbandoned => { c with fillsAbandoned := saturate32 c.fillsAbandoned }
  | .writesParked => { c with writesParked := saturate32 c.writesParked }

/-- One increment of a counter of window w (R156). -/
def count (n : CounterName) (w : WindowNo) (s : State) : State :=
  { s with counters := s.counters.set w (s.counters[w].bump n) }

/-- k increments, one after another. -/
def countTimes (n : CounterName) (w : WindowNo) : Nat → State → State
  | 0, s => s
  | k + 1, s => countTimes n w k (count n w s)

/-! ### Lanes (sections 1.1 and 1.2) -/

/-- A refused word: data 0, FAULT, PLAIN; for a write, outcome FAULT (R2, R3). -/
def refusedWord : WordState := .done ⟨0, .fault, .plain⟩

/-- A word of a parked segment: outcome OKAY (R3). -/
def parkedWord : WordState := .done ⟨0, .okay, .plain⟩

/-- Heads whose last word would pass FFFFFFFCh are refused whole, one after another, until a head has segments (R4);
the second component says whether the lane then has a head. -/
def refuseWraps : List Request → List Request × Bool
  | [] => ([], false)
  | q :: qs =>
    if q.allTaken then
      let (qs', h) := refuseWraps qs
      (q :: qs', h)
    else if q.wraps then
      let (qs', h) := refuseWraps qs
      ({ q with words := q.words.map fun _ => refusedWord } :: qs', h)
    else (q :: qs, true)

/-- The lane after its first untaken segment has been taken, or its first request has arrived: the next segment is
offered at once (R5), and no note of a stall remains (R75, R100). -/
def Lane.advance (l : Lane) : Lane :=
  let (qs, h) := refuseWraps l.reqs
  { l with reqs := qs, phase := if h then .toOffer else .idle, exhaustedNoted := false, parkFullNoted := false }

/-- The first requests of a list changed up to and including the first one with untaken words. -/
def onHead (f : Request → Request) : List Request → List Request
  | [] => []
  | q :: qs => if q.allTaken then q :: onHead f qs else f q :: qs

/-- The next words of a request take the given fates, in address order (R5). -/
def Request.take (q : Request) (fates : List WordState) : Request :=
  { q with words := q.words.take q.takenCount ++ fates ++ q.words.drop (q.takenCount + fates.length) }

/-- The words of a request from a position take the given fates (R17). -/
def Request.placeAt (q : Request) (first : Nat) (fates : List WordState) : Request :=
  { q with words := q.words.take first ++ fates ++ q.words.drop (first + fates.length) }

/-- The oldest request of a lane is COMPLETE (R7). -/
def Lane.hasResponse (l : Lane) : Bool :=
  match l.reqs with
  | [] => false
  | q :: _ => q.complete

/-- The upstream response arbiter grants when it holds no grant and a lane is a candidate (R7, log 17). -/
def grantResponse (s : State) : State :=
  match s.responseGrant with
  | some _ => s
  | none => { s with responseGrant := (roundRobin s.lastResponseLane).find? fun m => s.lanes[m].hasResponse }

/-- The first untaken words of lane m are taken with the given fates, and the lane goes on (R5, R14). -/
def takeWords (m : Tag) (fates : List WordState) (s : State) : State :=
  let l := s.lanes[m]
  grantResponse (s.setLane m (Lane.advance { l with reqs := onHead (fun q => q.take fates) l.reqs }))

/-- The words of the request at a lane position take the fates `fate` gives for their present ones (R17). -/
def placeIn (p : LanePos) (fate : List WordState → List WordState) (q : Request) : Request :=
  if q.place = p.place then q.placeAt p.first (fate ((q.words.drop p.first).take p.length)) else q

/-- Beats or an outcome placed at their word positions in the request that waits for them (R17). -/
def placeWords (p : LanePos) (fate : List WordState → List WordState) (s : State) : State :=
  let l := s.lanes[p.lane]
  grantResponse (s.setLane p.lane { l with reqs := l.reqs.map (placeIn p fate) })

/-- The phase of lane m. -/
def setPhase (m : Tag) (ph : HeadPhase) (s : State) : State := s.setLane m { s.lanes[m] with phase := ph }

/-- A segment that stalls for a reason of the given kind is to be offered again (R5). -/
def Lane.reoffer (p : Stall → Bool) (l : Lane) : Lane :=
  match l.phase with
  | .stalled why => if p why then { l with phase := .toOffer } else l
  | .idle => l
  | .toOffer => l
  | .candidate => l
  | .bound _ => l

/-- Every segment that stalls for a reason of the given kind is to be offered again (R5). -/
def reofferWhen (p : Stall → Bool) (s : State) : State :=
  { s with lanes := tableMap (fun _ l => l.reoffer p) s.lanes }

/-! ### Recuts (R9) -/

/-- One lane recut from the windows `old` to the windows `new`. A segment left in its class and identity stays as it
was; another keeps no trace of its stall and is offered afresh; the words of a bound lead read keep their class (R125). -/
def Lane.recut (old new : Vector Window 16) (l : Lane) : Lane :=
  match l.phase with
  | .idle => l
  | .bound _ => l
  | .toOffer | .candidate | .stalled _ =>
    match l.head with
    | none => l
    | some q =>
      if firstSegment old q = firstSegment new q then l
      else { l with phase := .toOffer, exhaustedNoted := false, parkFullNoted := false }

/-- Every lane recut after a change of window states from `old` (R9, R27). -/
def recut (old : Vector Window 16) (s : State) : State :=
  { s with lanes := tableMap (fun _ l => l.recut old s.windows) s.lanes }

/-! ### Issue (section 1.5) -/

/-- A request joins the tail of the in-flight list (R16). -/
def issue (x : InFlight) (s : State) : State := { s with inFlight := s.inFlight ++ [x] }

/-- The list has room for another request (R16). -/
def canIssue (s : State) : Bool := decide (s.inFlight.length < Config.maxInFlight)

end Sys2Proof.Machine
end

