-- ==== Sys2Proof/Machine/Fills.lean ====
section
/-! DEFINITION. The Fill Engine and the Park Queue (chapters 4 and 5) and the bank roles (chapter 6): finding fills,
activation, coverage, publication, abandonment, parking and release. -/

namespace Sys2Proof.Machine

/-! ### Looking at the tables -/

/-- The fill is open on record r of window w: WAITING or ACTIVE (R71). -/
def Fill.isOpenOn (w : WindowNo) (r : Nat) (x : Fill) : Bool :=
  decide (x.state ≠ .free) && decide (x.window = w) && decide (x.record = r)

/-- The open fill of a record (R71). -/
def openFill (s : State) (w : WindowNo) (r : Nat) : Option FillNo := tableFind (Fill.isOpenOn w r) s.fills

/-- The lowest-numbered FREE Fill Table entry (R74). -/
def freeFill (s : State) : Option FillNo := tableFind (fun x => decide (x.state = .free)) s.fills

/-- The fill an index and generation name, while it is open (R70, R86). -/
def refersTo (ref : FillRef) (s : State) : Bool :=
  decide (s.fills[ref.index].state ≠ .free) && decide (s.fills[ref.index].generation = ref.generation)

/-- The reference that names the fill now in entry f. -/
def fillRef (s : State) (f : FillNo) : FillRef := ⟨f, s.fills[f].generation⟩

/-- The hold is OPEN on record r of window w. -/
def Hold.isOpenOn (w : WindowNo) (r : Nat) (h : Hold) : Bool :=
  decide (h.state = .opened) && decide (h.window = w) && decide (h.record = r)

/-- The OPEN holds of masters other than m on a record (R93). -/
def otherOpenHolds (s : State) (w : WindowNo) (r : Nat) (m : Tag) : List HoldNo :=
  tableAll (fun h => h.isOpenOn w r && decide (h.master ≠ m)) s.holds

/-- The OPEN holds on a record pinned to bank k (R67). -/
def pinsOf (s : State) (w : WindowNo) (r : Nat) (k : Bank) : List HoldNo :=
  tableAll (fun h => h.isOpenOn w r && decide (h.pinnedBank = some k)) s.holds

/-- The used banks of a record that are neither active nor pinned, lowest-numbered first (R112). -/
def spareBanks (s : State) (w : WindowNo) (r : Nat) : List Bank :=
  (s.cfg w).usedBanks.filter fun k => decide (k ≠ (s.dirEntry w r).activeBank) && (pinsOf s w r k).isEmpty

/-- The lowest-numbered used bank that is not the active bank (R115, R122). -/
def lowestOtherBank (s : State) (w : WindowNo) (r : Nat) : Option Bank :=
  (s.cfg w).usedBanks.find? fun k => decide (k ≠ (s.dirEntry w r).activeBank)

/-- Role of a bank of a record: the first condition of Table 6-1 that holds (R108). It is derived, not kept. -/
inductive BankRole where
  | current
  | writing
  | retained
  | spare
  deriving DecidableEq, Repr

/-- The role of bank k of record r of window w (R108). -/
def bankRole (s : State) (w : WindowNo) (r : Nat) (k : Bank) : BankRole :=
  if k = (s.dirEntry w r).activeBank then .current
  else if (openFill s w r).any fun f => decide (s.fills[f].state = .active) && decide (s.fills[f].target = some k) then .writing
  else if (pinsOf s w r k).isEmpty then .spare
  else .retained

/-- Whether a fill of master m on the record may be ACTIVE against the holds of this moment, and with which target bank
(Table 4-3, R94, R112, R114): in SINGLE when no other master holds the record, in BANKED in the lowest SPARE bank. -/
def fillPlace (s : State) (w : WindowNo) (r : Nat) (m : Tag) : Option (Option Bank) :=
  match (s.cfg w).mode with
  | .single => if (otherOpenHolds s w r m).isEmpty then some none else none
  | .banked => (spareBanks s w r).head?.map some
  | .snap => some none

/-! ### Re-offers -/

def Stall.isParkRoom (w : WindowNo) (r : Nat) (x : Stall) : Bool := decide (x = .parkRoom w r)

/-- Stalls that end when an entry leaves the Park Queue (R100). -/
def Stall.isAnyParkRoom : Stall → Bool
  | .parkRoom _ _ => true
  | .behindFill _ _ => false
  | .closingFill _ _ => false
  | .fillTable => false
  | .unissuedCopy _ _ => false
  | .draining => false

/-- Stalls that end when the fill of record r of window w becomes FREE (R82). -/
def Stall.endsWithFill (w : WindowNo) (r : Nat) (x : Stall) : Bool :=
  decide (x = .behindFill w r) || decide (x = .closingFill w r) || decide (x = .fillTable)

/-- What a fill entry's becoming FREE tells its neighbours (R82): readers and the owner's writes behind the fill are
re-offered, and so is every opening stalled for lack of an entry (R75). -/
def fillFreed (w : WindowNo) (r : Nat) (s : State) : State := reofferWhen (Stall.endsWithFill w r) s

/-! ### Activation (R79, R101) -/

/-- Downstream address of word j of record r: in the given bank, else in the face (R29, R30, R102). -/
def recordWord (c : WinConfig) (target : Option Bank) (r j : Nat) : WordAddr :=
  match target with
  | some k => c.bankWord k r j
  | none => c.faceWord r j

/-- A PARKED entry of the fill becomes RELEASED, and its release address is fixed (R101, R102). -/
def ParkEntry.releaseFor (ref : FillRef) (c : WinConfig) (target : Option Bank) (e : ParkEntry) : ParkEntry :=
  if e.fill = some ref then
    match e.condition with
    | .parked => { e with condition := .released (recordWord c target e.record e.offset) }
    | .released _ => e
  else e

/-- Fill f becomes ACTIVE with the given target bank (R79). -/
def activateFill (f : FillNo) (target : Option Bank) (s : State) : State :=
  let x := s.fills[f]
  let c := s.cfg x.window
  reofferWhen (Stall.isParkRoom x.window x.record)
    { s.setFill f { x with state := .active, target := target, countdown := c.fillLimit } with
      park := s.park.map (ParkEntry.releaseFor (fillRef s f) c target) }

/-- The WAITING fill of a record tested for activation (R79, R94, R114). -/
def tryActivate (w : WindowNo) (r : Nat) (s : State) : State :=
  match openFill s w r with
  | none => s
  | some f =>
    if s.fills[f].state = .waiting then
      match fillPlace s w r s.fills[f].owner with
      | none => s
      | some target => activateFill f target s
    else s

/-! ### Publication and abandonment -/

/-- Directory entry i marked DAMAGED (R40). -/
def markDamaged (i : Nat) (s : State) : State := s.setDir i { dirGet s.directory i with damaged := true }

/-- Fill entry f becomes FREE (R70), and its neighbours are told (R82). -/
def freeFillEntry (f : FillNo) (s : State) : State :=
  let x := s.fills[f]
  fillFreed x.window x.record (s.setFill f (.cleared x.generation))

/-- The directory entry after publication of fill x (R39). -/
def publishedEntry (now : BitVec 32) (x : Fill) (e : DirEntry) : DirEntry :=
  { activeBank := x.target.getD e.activeBank, version := e.version + 1, fresh := true, stale := false,
    damaged := e.damaged && x.writeFaulted, publishedAt := now }

/-- Fill f publishes (R80). -/
def publish (f : FillNo) (s : State) : State :=
  let x := s.fills[f]
  let i := (s.cfg x.window).dirIndex x.record
  let s1 := s.setDir i (publishedEntry s.timeBase.value x (dirGet s.directory i))
  let s2 := count .fillsPublished x.window (freeFillEntry f s1)
  report (.of .fillPublished x.window x.record x.owner) s2

/-- Fill f is abandoned, other than at soft reset (R84). -/
def abandonFill (f : FillNo) (s : State) : State :=
  let x := s.fills[f]
  let c := s.cfg x.window
  let s1 := s.setFill f { x with abandoned := true }
  let s2 := if c.mode = .banked then s1 else markDamaged (c.dirIndex x.record) s1
  let s3 := count .fillsAbandoned x.window (report (.of .fillAbandoned x.window x.record x.owner) s2)
  if x.parked = 0 then freeFillEntry f s3 else s3

/-- What follows an issue of one of fill f's words: publication when its coverage is complete and no word of it is
parked any more (R78, R80, log 18), or the end of its abandonment (R84). -/
def fillIssued (f : FillNo) (s : State) : State :=
  let x := s.fills[f]
  if x.state = .active ∧ x.parked = 0 then
    if x.abandoned then freeFillEntry f s
    else if covers (s.cfg x.window).guardLen.toNat x.coverage then publish f s
    else s
  else s

/-- A fill entry allocated: the next generation, empty coverage, no parked word, both flags clear (R74). -/
def allocateFill (f : FillNo) (st : FillState) (m : Tag) (w : WindowNo) (r : Nat) (target : Option Bank) (s : State) :
    State :=
  s.setFill f
    { state := st, owner := m, window := w, record := r, generation := s.fills[f].generation + 1,
      target := target, coverage := 0, parked := 0,
      countdown := (if st = .active then (s.cfg w).fillLimit else 0), writeFaulted := false, abandoned := false }

/-- The words of a write segment counted in fill f's coverage (R77). -/
def countCoverage (f : FillNo) (a : Nat) (ws : List WriteWord) (s : State) : State :=
  s.setFill f { s.fills[f] with coverage := s.fills[f].coverage ||| fullWrites a ws }

/-- The Park Queue entries of a write segment, one per word in address order (R99). -/
def parkEntries (ref : FillRef) (m : Tag) (g : GuardSpan) (dirIndex : Nat) : Nat → List WriteWord → List ParkEntry
  | _, [] => []
  | j, x :: xs => ⟨some ref, m, g.window, g.record, dirIndex, j, x, .parked⟩ :: parkEntries ref m g dirIndex (j + 1) xs

/-- The words of a segment of WAITING fill f join the tail of the Park Queue (R99). -/
def parkWords (f : FillNo) (m : Tag) (g : GuardSpan) (ws : List WriteWord) (s : State) : State :=
  let s1 := countCoverage f g.offset ws s
  let s2 := s1.setFill f { s1.fills[f] with parked := s1.fills[f].parked + ws.length }
  let i := (s.cfg g.window).dirIndex g.record
  countTimes .writesParked g.window ws.length
    { s2 with park := s2.park ++ parkEntries (fillRef s f) m g i g.offset ws }

/-- A fault on a write that was issued for a fill: DAMAGED, and the write-faulted flag under the generation test
(R86, R105). -/
def fillWriteFaulted (dirIndex : Nat) (ref : Option FillRef) (s : State) : State :=
  let s1 := markDamaged dirIndex s
  match ref with
  | none => s1
  | some f => if refersTo f s1 then (s1.setFill f.index { s1.fills[f.index] with writeFaulted := true }) else s1

/-! ### The overlay of an own-view read (R88, R103) -/

/-- One byte mask and one word in which a later parked write lies over an earlier one. -/
def overlayOver (old new : WriteWord) : WriteWord := ⟨overlayWord old.data new, old.enables ||| new.enables⟩

/-- The overlay of one word: the entries of the fill with its offset, in arrival order (R103). -/
def overlayOf (park : List ParkEntry) (ref : FillRef) (j : Nat) : WriteWord :=
  (park.filter fun e => decide (e.fill = some ref) && decide (e.offset = j)).foldl
    (fun acc e => overlayOver acc e.word) ⟨0, 0⟩

/-- The overlay of a segment of n words from offset a. -/
def overlayFrom (park : List ParkEntry) (ref : FillRef) (a : Nat) : Nat → List WriteWord
  | 0 => []
  | n + 1 => overlayOf park ref a :: overlayFrom park ref (a + 1) n

end Sys2Proof.Machine
end

