-- ==== Sys2Proof/Machine/Holds.lean ====
section
/-! DEFINITION. The Hold Unit and the Snapshot Store (chapters 3 and 7): finding, choosing, loading, covering, closing,
surrendering and breaking holds. -/

namespace Sys2Proof.Machine

/-- The entry belongs to master m's hold on record r of window w (R46). -/
def Hold.isOf (m : Tag) (w : WindowNo) (r : Nat) (h : Hold) : Bool :=
  decide (h.state ≠ .free) && decide (h.master = m) && decide (h.window = w) && decide (h.record = r)

/-- A master's entry for a record (R46). -/
def findHold (s : State) (m : Tag) (w : WindowNo) (r : Nat) : Option HoldNo := tableFind (Hold.isOf m w r) s.holds

/-- A BROKEN entry whose copy data is not outstanding: only such an entry still names a slot (R63). -/
def Hold.isSettledBroken (h : Hold) : Bool := decide (h.state = .broken) && decide (h.slot = none)

/-- Of the entries listed, one with the least linger remaining; among equals the first (R51). -/
def leastLinger (s : State) : List HoldNo → Option HoldNo
  | [] => none
  | i :: is =>
    match leastLinger s is with
    | none => some i
    | some j => if s.holds[j].countdown < s.holds[i].countdown then some j else some i

/-- The entry for an opening by master m on record r: replacement, free entry, or reclaim (R51). -/
def chooseEntry (s : State) (m : Tag) (w : WindowNo) (r : Nat) : Option HoldNo :=
  match findHold s m w r with
  | some i => if s.holds[i].isSettledBroken then some i else none
  | none =>
    match tableFind (fun h : Hold => decide (h.state = .free)) s.holds with
    | some i => some i
    | none => leastLinger s (tableAll Hold.isSettledBroken s.holds)

/-- The lowest-numbered FREE slot (R53). -/
def freeSlot (s : State) : Option SlotNo := tableFind (fun x => decide (x = .free)) s.slots

/-- A copy request of the record exists that is not issued and whose hold is still COPYING (R127). -/
def hasUnissuedCopy (s : State) (w : WindowNo) (r : Nat) : Bool :=
  s.copies.any fun k => decide (k.window = w) && decide (k.record = r) && decide (s.holds[k.hold].state = .copying)

/-- The words a LOADED slot holds (R123). -/
def slotWords : Slot → List Word
  | .free => []
  | .awaiting _ _ => []
  | .loaded _ _ ws => ws

/-! ### Leaving OPEN and COPYING -/

/-- A slot that a hold names becomes FREE (R132). -/
def releaseSlot (k : Option SlotNo) (s : State) : State :=
  match k with
  | none => s
  | some j => s.setSlot j .free

/-- The report of an entry leaving OPEN (R66): stalled writes of the record are re-offered (R100), and a WAITING fill is
tested for activation (R79). -/
def leftOpen (w : WindowNo) (r : Nat) (s : State) : State := tryActivate w r (reofferWhen (Stall.isParkRoom w r) s)

/-- An entry has left COPYING, or its copy has been issued: writes stalled behind the copy are re-offered (R127). -/
def copyMoved (w : WindowNo) (r : Nat) (s : State) : State := reofferWhen (fun x => decide (x = .unissuedCopy w r)) s

/-- An OPEN hold closes or is surrendered (R57, R58). -/
def closeHold (i : HoldNo) (s : State) : State :=
  let h := s.holds[i]
  leftOpen h.window h.record ((releaseSlot h.slot s).setHold i .cleared)

/-- Master m gives up its entry for the record, at the take of a write that opens a fill (R58). A COPYING entry cannot
be there, since the master's lane waits for the copy. -/
def surrender (m : Tag) (w : WindowNo) (r : Nat) (s : State) : State :=
  match findHold s m w r with
  | none => s
  | some i =>
    match s.holds[i].state with
    | .opened => closeHold i s
    | .broken => if s.holds[i].isSettledBroken then s.setHold i .cleared else s
    | .copying => s
    | .free => s

/-- The segment's guard words join the entry's coverage (R56); a complete coverage closes an OPEN hold (R57) and frees a
BROKEN entry (R64). -/
def coverHold (i : HoldNo) (a n : Nat) (s : State) : State :=
  let h := s.holds[i]
  let c := h.coverage ||| offsetSet a n
  let s1 := s.setHold i { h with coverage := c }
  if covers (s.cfg h.window).guardLen.toNat c then
    match h.state with
    | .opened => closeHold i s1
    | .broken => s1.setHold i .cleared
    | .copying => s1
    | .free => s1
  else s1

/-- Entry i loaded for an opening (R50), in the given state, with the given bank or slot. -/
def loadHold (i : HoldNo) (st : HoldState) (m : Tag) (w : WindowNo) (r : Nat) (pin : Option Bank) (slot : Option SlotNo)
    (s : State) : State :=
  let e := s.dirEntry w r
  count .holdsOpened w (s.setHold i
    { state := st, master := m, window := w, record := r, versionSeen := e.version, damagedAtOpen := e.damaged,
      pinnedBank := pin, slot := slot, coverage := 0, countdown := (s.cfg w).holdLimit, reason := none,
      leftService := false })

/-! ### Breaking (R59, R63) -/

/-- The event a break reports: EXPIRED and YIELDED report, DRAIN and MANAGEMENT do not (R59). -/
def breakReport (reason : BreakReason) (h : Hold) (s : State) : State :=
  match reason with
  | .expired => report (.of .holdExpired h.window h.record h.master) s
  | .yielded => report (.of .holdYielded h.window h.record h.master) s
  | .drain => s
  | .management => s

/-- The entry, counter and event part of breaking entry i: an OPEN hold (R59), a COPYING one, which keeps its slot
(R63), or nothing for another entry. -/
def breakEntry (reason : BreakReason) (i : HoldNo) (s : State) : State :=
  let h := s.holds[i]
  let linger := (s.cfg h.window).linger
  match h.state with
  | .opened =>
    breakReport reason h (count .holdsBroken h.window ((releaseSlot h.slot s).setHold i
      { h with state := .broken, pinnedBank := none, slot := none, countdown := linger, reason := some reason }))
  | .copying =>
    count .holdsBroken h.window (s.setHold i { h with state := .broken, countdown := linger, reason := some reason })
  | .broken => s
  | .free => s

/-- What the break of entry i, as it stood, tells the neighbours (R66, R127). -/
def afterBreak (h : Hold) (s : State) : State :=
  match h.state with
  | .opened => leftOpen h.window h.record s
  | .copying => copyMoved h.window h.record s
  | .broken => s
  | .free => s

/-- Entry i broken with a reason, its neighbours told. -/
def breakHold (reason : BreakReason) (i : HoldNo) (s : State) : State := afterBreak s.holds[i] (breakEntry reason i s)

/-- Entries broken one after another. -/
def breakAll (reason : BreakReason) : List HoldNo → State → State
  | [], s => s
  | i :: is, s => breakAll reason is (breakHold reason i s)

end Sys2Proof.Machine
end

