-- ==== Sys2Proof/Machine/Drain.lean ====
section
/-! DEFINITION. The Window Registry's drains (chapter 11): completion and the forced drain. -/

namespace Sys2Proof.Machine

/-- The OPEN and COPYING holds of window w, lowest-numbered first. -/
def holdsInForce (s : State) (w : WindowNo) : List HoldNo :=
  tableAll (fun h : Hold => (decide (h.state = .opened) || decide (h.state = .copying)) && decide (h.window = w)) s.holds

/-- The open fills of window w, lowest-numbered first. -/
def fillsOf (s : State) (w : WindowNo) : List FillNo :=
  tableAll (fun x : Fill => decide (x.state ≠ .free) && decide (x.window = w)) s.fills

/-- Nothing of window w holds its drain back (R173). -/
def windowComplete (s : State) (w : WindowNo) : Bool :=
  (holdsInForce s w).isEmpty && (fillsOf s w).isEmpty && !(s.park.any fun e => decide (e.window = w))

/-- Window w's sweep is cancelled without report (R144). -/
def cancelSweep (w : WindowNo) (s : State) : State :=
  { s with
    pendingSweeps := dropBit s.pendingSweeps w
    sweep := s.sweep.filter fun x => decide (x.window ≠ w) }

/-- What a window's becoming OFF does to a hold of it: a BROKEN entry is freed, or is marked while its copy data is
outstanding (R65, R173). -/
def Hold.leaveService (w : WindowNo) (h : Hold) : Hold :=
  if h.window = w then
    match h.state with
    | .broken => if h.slot = none then .cleared else { h with leftService := true }
    | .free => h
    | .copying => h
    | .opened => h
  else h

/-- DRAIN_DONE of window w (Table 9-2). -/
def drainDoneReport (w : WindowNo) : Report := ⟨.drainDone, some w, none, none, none, 0⟩

/-- The changes of a completed drain (R173): the window is OFF, its drain fields gone, its live fields kept (R25). -/
def completeDrain (w : WindowNo) (s : State) : State :=
  let s1 := s.setWindow w { s.windows[w] with state := .off }
  let s2 := cancelSweep w { s1 with holds := tableMap (fun _ h => h.leaveService w) s1.holds }
  recut s.windows (report (drainDoneReport w) s2)

/-- The completion test of window w (R173). -/
def drainTest (w : WindowNo) (s : State) : State :=
  if s.windows[w].isDraining && windowComplete s w then completeDrain w s else s

/-- Step 2 of a forced drain: every OPEN and COPYING entry of the window broken with reason DRAIN; the fills that wait
are tested in step 3 only (R175, log 30). -/
def breakForDrain : List HoldNo → State → State
  | [], s => s
  | i :: is, s => breakForDrain is (breakEntry .drain i s)

/-- Step 3: the WAITING fills of the window tested for activation. -/
def activateFills : List FillNo → State → State
  | [], s => s
  | f :: fs, s => activateFills fs (tryActivate s.fills[f].window s.fills[f].record s)

/-- Step 4: the open fills with incomplete coverage abandoned, unless they already are. -/
def abandonIncomplete : List FillNo → State → State
  | [], s => s
  | f :: fs, s =>
    let x := s.fills[f]
    abandonIncomplete fs
      (if x.state ≠ .free ∧ x.abandoned = false ∧ covers (s.cfg x.window).guardLen.toNat x.coverage = false then
        abandonFill f s
      else s)

/-- Writes of window w that stall for park room, or behind an unissued copy of a hold that left COPYING (R100, R127). -/
def Stall.touchedByDrain (w : WindowNo) : Stall → Bool
  | .parkRoom v _ => decide (v = w)
  | .unissuedCopy v _ => decide (v = w)
  | .behindFill _ _ => false
  | .closingFill _ _ => false
  | .fillTable => false
  | .draining => false

/-- A window's forced mark is set and its drain countdown stops, at the value it has (R175). -/
def Window.force (x : Window) : Window :=
  match x.state with
  | .draining n _ => { x with state := .draining n true }
  | .off => x
  | .live => x

/-- DRAIN_FORCED of window w (Table 9-2): detail holds broken plus fills open. -/
def drainForcedReport (w : WindowNo) (n : Nat) : Report := ⟨.drainForced, some w, none, none, none, .ofNat 16 n⟩

/-- The forced drain of a DRAINING window w (R175), step by step. The order of the abandonments is free (log 10). -/
def forceDrain (w : WindowNo) (s : State) : State :=
  let hs := holdsInForce s w
  let fs := fillsOf s w
  let s1 := (s.setWindow w s.windows[w].force).drawn
  let s2 := reofferWhen (Stall.touchedByDrain w) (breakForDrain hs s1)
  let s3 := activateFills fs s2
  let s4 := abandonIncomplete (freeOrder s.freeCount fs) s3
  drainTest w (report (drainForcedReport w (hs.length + fs.length)) s4)

end Sys2Proof.Machine
end

