-- ==== Sys2Proof/Machine/Decide.lean ====
section
/-! DEFINITION. What the owner of a segment decides (R13, R14): the Window Decoder (R10 to R12), the Hold Unit (R47 to
R55, R125, R126) and the Fill Engine (R72 to R76). A decision changes nothing; chapter 1's events carry it out. -/

namespace Sys2Proof.Machine

/-- How a segment whose fate is issue is issued. -/
inductive IssueKind where
  /-- OUTSIDE, plain face, or OPEN bank range: unchanged (R10, R11, R12). -/
  | plain
  /-- The owner of fill f reads its record (R87). -/
  | ownView (f : FillNo)
  /-- Continuation of OPEN hold i in a SINGLE or BANKED window (R54). -/
  | continuation (i : HoldNo)
  /-- An opening in a SINGLE or BANKED window that takes entry i (R50). -/
  | opening (i : HoldNo)
  /-- An opening without entry or slot (R52, R126). -/
  | denied (lacks : Resource)
  /-- A whole-record read (R55). -/
  | wholeRecord
  /-- A broken continuation under entry i (R64). -/
  | brokenContinuation (i : HoldNo)
  /-- A read with no entry (R47, case 5). -/
  | unguarded
  /-- A write of ACTIVE fill f (R76). -/
  | fillWrite (f : FillNo)
  /-- A write that opens a fill in entry f, ACTIVE at once, after the listed holds have yielded (R74, R95, R115). -/
  | fillOpening (f : FillNo) (target : Option Bank) (yielding : List HoldNo)
  deriving DecidableEq, Repr

/-- The fate of a segment as its owner decides it at one moment (Table 1-4). -/
inductive Decision where
  | issue (how : IssueKind)
  | refuse (event : Option Report)
  /-- Served from the slot of OPEN hold i (R131). -/
  | serve (i : HoldNo)
  /-- A SNAP opening that takes entry i and slot k (R125). -/
  | bind (i : HoldNo) (k : SlotNo)
  /-- Parked, as words of WAITING fill f (R99). -/
  | park (f : FillNo)
  /-- Parked, opening a WAITING fill in entry f (R74, R94, R113). -/
  | parkOpening (f : FillNo)
  | stall (why : Stall)
  /-- A stall for lack of a Fill Table entry (R75) or of park room (R100), which reports once in an episode. -/
  | stallFillTable
  | stallParkRoom
  deriving DecidableEq, Repr

/-! ### Guard reads -/

/-- The last step of an opening candidate that nothing stalls or refuses (R47, R50, R55, R125, R126). -/
def decideOpening (s : State) (m : Tag) (g : GuardSpan) : Decision :=
  let c := s.cfg g.window
  if g.length = c.guardLen.toNat then .issue .wholeRecord
  else
    match chooseEntry s m g.window g.record with
    | none => .issue (.denied .entry)
    | some i =>
      if c.mode = .snap then
        match freeSlot s with
        | none => .issue (.denied .slot)
        | some k => .bind i k
      else .issue (.opening i)

/-- An opening candidate (R47, case 3): the stalls of its mode and window state, then the stale-read policy (R145). -/
def decideCandidate (s : State) (m : Tag) (g : GuardSpan) : Decision :=
  let c := s.cfg g.window
  if c.mode ≠ .banked ∧ (openFill s g.window g.record).isSome then .stall (.behindFill g.window g.record)
  else if s.windows[g.window].isDraining ∧ g.length ≠ c.guardLen.toNat then .stall .draining
  else if (s.dirEntry g.window g.record).stale ∧ c.stalePolicy = .fault then
    .refuse (some (.of .staleRead g.window g.record m))
  else decideOpening s m g

/-- The decision for a guard read segment: the first case of R47 that applies. A COPYING entry of the master cannot be
met, since its lane waits for the copy (R125); the segment would stall with it. -/
def decideRead (s : State) (m : Tag) (g : GuardSpan) : Decision :=
  match (openFill s g.window g.record).filter fun f => decide (s.fills[f].owner = m) with
  | some f => .issue (.ownView f)
  | none =>
    match findHold s m g.window g.record with
    | none => if g.offset = 0 then decideCandidate s m g else .issue .unguarded
    | some i =>
      match s.holds[i].state with
      | .opened => if (s.cfg g.window).mode = .snap then .serve i else .issue (.continuation i)
      | .copying => .stall (.unissuedCopy g.window g.record)
      | .broken => if g.offset = 0 then decideCandidate s m g else .issue (.brokenContinuation i)
      | .free => .issue .unguarded

/-! ### Guard writes -/

/-- The producer check (R31). -/
def mayProduce (p : Producer) (m : Tag) : Bool :=
  match p with
  | .any => true
  | .master t => decide (t = m)

/-- The Park Queue has n free places (R99). -/
def parkHasRoom (s : State) (n : Nat) : Bool := decide (s.park.length + n ≤ Config.parkCapacity)

/-- The opening of a fill in entry f, decided by Table 4-3 against the holds that remain once the master's own is given
up (R74): ACTIVE, ACTIVE after yields, or WAITING. -/
def decideFillOpening (s : State) (m : Tag) (g : GuardSpan) (f : FillNo) : Decision :=
  let s1 := surrender m g.window g.record s
  let waits := if parkHasRoom s g.length then Decision.parkOpening f else .stallParkRoom
  match fillPlace s1 g.window g.record m with
  | some target => .issue (.fillOpening f target [])
  | none =>
    match (s.cfg g.window).yieldPolicy with
    | .readersFirst => waits
    | .writerFirst =>
      match (s.cfg g.window).mode with
      | .single => .issue (.fillOpening f none (otherOpenHolds s1 g.window g.record m))
      | .banked =>
        match lowestOtherBank s1 g.window g.record with
        | some k => .issue (.fillOpening f (some k) (pinsOf s1 g.window g.record k))
        | none => waits
      | .snap => waits

/-- The decision for a guard write segment: the producer check (R31), then the first case of R72 that applies. -/
def decideWrite (s : State) (m : Tag) (g : GuardSpan) : Decision :=
  let c := s.cfg g.window
  if mayProduce c.producer m then
    match openFill s g.window g.record with
    | some f =>
      let x := s.fills[f]
      if x.owner ≠ m then .refuse (some (.of .fillConflict g.window g.record m))
      else if x.abandoned ∨ covers c.guardLen.toNat x.coverage then .stall (.closingFill g.window g.record)
      else if x.state = .waiting then
        if parkHasRoom s g.length then .park f else .stallParkRoom
      else .issue (.fillWrite f)
    | none =>
      if s.windows[g.window].isDraining then .stall .draining
      else if c.mode = .snap ∧ hasUnissuedCopy s g.window g.record then .stall (.unissuedCopy g.window g.record)
      else
        match freeFill s with
        | none => .stallFillTable
        | some f => decideFillOpening s m g f
  else .refuse (some (.of .foreignWrite g.window g.record m))

/-! ### Any segment -/

/-- The decision for a BANK-RANGE segment (R12). The record is that of the first word. -/
def decideBankRange (s : State) (m : Tag) (w : WindowNo) (k : Bank) (a : Nat) : Decision :=
  let c := s.cfg w
  match c.bankGuard with
  | .openGuard => .issue .plain
  | .protectedGuard => .refuse (some (.of .bankAccess w ((a - (c.bankBase k).toNat) / c.size.toNat) m))

/-- The decision for the first untaken segment of a request of master m (R11, R12). -/
def decideSegment (s : State) (m : Tag) (q : Request) (g : Segment) : Decision :=
  match g.cls with
  | .outside => .issue .plain
  | .facePlain _ _ => .issue .plain
  | .bankRange w k => decideBankRange s m w k (segmentAddr q g)
  | .faceGuard w r =>
    match q.body with
    | .read _ => decideRead s m (guardSpan (s.cfg w) w r q g)
    | .write _ => decideWrite s m (guardSpan (s.cfg w) w r q g)

/-- The head request of a lane with its first untaken segment, cut against the windows of this moment (R9). -/
def headSegment (s : State) (m : Tag) : Option (Request × Segment) :=
  match s.lanes[m].head with
  | none => none
  | some q => (firstSegment s.windows q).map fun g => (q, g)

end Sys2Proof.Machine
end

