-- ==== Sys2Proof/Machine/Segments.lean ====
section
/-! DEFINITION. Carrying out a decision: what happens when a segment is offered (R14) and when it is granted (R13). -/

namespace Sys2Proof.Machine

/-- The guard words of a segment; a segment of another class has none. -/
def segmentSpan (s : State) (q : Request) (g : Segment) : GuardSpan :=
  match g.cls with
  | .faceGuard w r => guardSpan (s.cfg w) w r q g
  | .facePlain w r => ⟨w, r, 0, 0⟩
  | .bankRange w _ => ⟨w, 0, 0, 0⟩
  | .outside => ⟨0, 0, 0, 0⟩

/-- The write words of a segment of a request. -/
def requestWords (q : Request) (g : Segment) : List WriteWord :=
  match q.body with
  | .read _ => []
  | .write ws => segmentWords ws g

/-! ### Fates that need no grant (R14) -/

/-- A segment refused: FAULT words, and its event if it has one (R2, R3). -/
def refuseSegment (m : Tag) (n : Nat) (event : Option Report) (s : State) : State :=
  let s1 := takeWords m (List.replicate n refusedWord) s
  match event with
  | none => s1
  | some r => report r s1

/-- The beats of n words of a slot from offset a, with beat status OKAY (R2, R131). -/
def slotBeats (ws : List Word) (guard : GuardStatus) (a n : Nat) : List WordState :=
  (List.range n).map fun j => .done ⟨ws.getD (a + j) 0, .okay, guard⟩

/-- The words of the slot that hold i names. -/
def holdWords (s : State) (i : HoldNo) : List Word :=
  match s.holds[i].slot with
  | none => []
  | some k => slotWords s.slots[k]

/-- A continuation served from its hold's slot (R131); a complete coverage closes the hold (R57). -/
def serveSegment (m : Tag) (i : HoldNo) (g : GuardSpan) (s : State) : State :=
  let beats := slotBeats (holdWords s i) (heldOrTorn s.holds[i].damagedAtOpen) g.offset g.length
  drainTest g.window (coverHold i g.offset g.length (takeWords m beats s))

/-- A SNAP opening takes effect: entry, slot and copy request, and the lead read is bound to it (R53, R124, R125). -/
def bindSegment (m : Tag) (i : HoldNo) (k : SlotNo) (g : GuardSpan) (s : State) : State :=
  let c := s.cfg g.window
  let s1 := (loadHold i .copying m g.window g.record none (some k) s).setSlot k (.awaiting i c.guardLen.toNat)
  setPhase m (.bound g.length)
    { s1 with copies := s1.copies ++
        [⟨k, i, g.window, g.record, m, c.faceWord g.record 0, c.guardLen.toNat⟩] }

/-- A segment parked as words of WAITING fill f: outcome OKAY at once (R76, R99). -/
def parkSegment (m : Tag) (f : FillNo) (g : GuardSpan) (ws : List WriteWord) (s : State) : State :=
  parkWords f m g ws (takeWords m (List.replicate g.length parkedWord) s)

/-- An opening decided WAITING: surrender, allocation and parking in one event (R74, R99). -/
def parkOpeningSegment (m : Tag) (f : FillNo) (g : GuardSpan) (ws : List WriteWord) (s : State) : State :=
  parkSegment m f g ws (allocateFill f .waiting m g.window g.record none (surrender m g.window g.record s))

/-- A stall for lack of a Fill Table entry: reported once in an episode (R75). -/
def stallForFill (m : Tag) (g : GuardSpan) (s : State) : State :=
  let l := s.lanes[m]
  let s1 := s.setLane m { l with phase := .stalled .fillTable, exhaustedNoted := true }
  if l.exhaustedNoted then s1 else report (.of .fillExhausted g.window g.record m) s1

/-- A stall for lack of park room: reported once in an episode (R100). -/
def stallForRoom (m : Tag) (g : GuardSpan) (s : State) : State :=
  let l := s.lanes[m]
  let s1 := s.setLane m { l with phase := .stalled (.parkRoom g.window g.record), parkFullNoted := true }
  if l.parkFullNoted then s1 else report (.of .parkFull g.window g.record m) s1

/-- A decision other than issue carried out, at the offer or at a grant that the lane does not use (R13, R14). A fate of
issue makes the lane a candidate. -/
def carryOut (m : Tag) (q : Request) (g : Segment) (d : Decision) (s : State) : State :=
  let sp := segmentSpan s q g
  match d with
  | .issue _ => setPhase m .candidate s
  | .refuse event => refuseSegment m g.length event s
  | .serve i => serveSegment m i sp s
  | .bind i k => bindSegment m i k sp s
  | .park f => parkSegment m f sp (requestWords q g) s
  | .parkOpening f => parkOpeningSegment m f sp (requestWords q g) s
  | .stall why => setPhase m (.stalled why) s
  | .stallFillTable => stallForFill m sp s
  | .stallParkRoom => stallForRoom m sp s

/-- The first untaken segment of lane m offered to its owner (R5, R14). -/
def offer (m : Tag) (s : State) : State :=
  match headSegment s m with
  | none => s
  | some (q, g) => carryOut m q g (decideSegment s m q g) s

/-! ### Issue (R13, R16) -/

/-- The lane position of a segment (R17). -/
def lanePos (m : Tag) (q : Request) (g : Segment) : LanePos := ⟨m, q.place, g.first, g.length⟩

/-- A read segment issued at an address, its guard status fixed (R13, R48). -/
def issueRead (m : Tag) (q : Request) (g : Segment) (addr : WordAddr) (guard : GuardStatus)
    (origin : Option GuardReadOrigin) (overlay : List WriteWord) (s : State) : State :=
  takeWords m (List.replicate g.length (.pending guard))
    (issue ⟨⟨addr, .read g.length⟩, .laneRead (lanePos m q g) origin overlay⟩ s)

/-- A write segment issued at an address (R13). -/
def issueWrite (m : Tag) (q : Request) (g : Segment) (addr : WordAddr) (origin : Option GuardWriteOrigin) (s : State) :
    State :=
  takeWords m (List.replicate g.length (.pending .plain))
    (issue ⟨⟨addr, .write (requestWords q g)⟩, .laneWrite (lanePos m q g) origin⟩ s)

/-- OUTSIDE, plain face and OPEN bank-range segments pass unchanged (R10, R11, R12). -/
def issuePlain (m : Tag) (q : Request) (g : Segment) (s : State) : State :=
  match q.body with
  | .read _ => issueRead m q g (.ofNat 30 (segmentAddr q g)) .plain none [] s
  | .write _ => issueWrite m q g (.ofNat 30 (segmentAddr q g)) none s

/-- The bank a guard read without a pin reaches: the active bank in BANKED windows, none (the face) in others (R109, R111). -/
def readBank (s : State) (w : WindowNo) (r : Nat) : Option Bank :=
  if (s.cfg w).mode = .banked then some (s.dirEntry w r).activeBank else none

/-- The bank an own-view read of fill f reaches (Table 4-4): in BANKED the active bank while the fill is WAITING, then
its target bank. -/
def ownViewBank (s : State) (f : FillNo) : Option Bank :=
  let x := s.fills[f]
  match x.state with
  | .active => x.target
  | .waiting => readBank s x.window x.record
  | .free => readBank s x.window x.record

/-- A guard read segment issued in a bank or in the face (R49). -/
def issueGuardRead (m : Tag) (q : Request) (g : Segment) (sp : GuardSpan) (bank : Option Bank) (guard : GuardStatus)
    (hold : Option HoldNo) (overlay : List WriteWord) (s : State) : State :=
  issueRead m q g (recordWord (s.cfg sp.window) bank sp.record sp.offset) guard (some ⟨sp.window, sp.record, hold⟩)
    overlay s

/-- A write segment of ACTIVE fill f issued, its coverage counted, and publication if it is complete (R76, R77, R80).
FILL_PUBLISHED comes before the DRAIN_DONE of a drain that the publication completes (DESIGN CHOICE, log 32). -/
def issueFillWrite (m : Tag) (q : Request) (g : Segment) (sp : GuardSpan) (f : FillNo) (s : State) : State :=
  let c := s.cfg sp.window
  let origin : GuardWriteOrigin := ⟨sp.window, sp.record, c.dirIndex sp.record, fillRef s f⟩
  let s1 := countCoverage f sp.offset (requestWords q g) s
  let s2 := issueWrite m q g (recordWord c s.fills[f].target sp.record sp.offset) (some origin) s1
  drainTest sp.window (fillIssued f s2)

/-- A write that opens an ACTIVE fill: surrender, yields (in a free order, log 10), allocation, then the write (R74, R81). -/
def issueFillOpening (m : Tag) (q : Request) (g : Segment) (sp : GuardSpan) (f : FillNo) (target : Option Bank)
    (yielding : List HoldNo) (s : State) : State :=
  let s1 := surrender m sp.window sp.record s
  let s2 := breakAll .yielded (freeOrder s.freeCount yielding) s1.drawn
  let s3 := allocateFill f .active m sp.window sp.record target s2
  issueFillWrite m q g sp f (reofferWhen (Stall.isParkRoom sp.window sp.record) s3)

/-- HOLD_DENIED, naming the missing resource (R52). -/
def deniedReport (m : Tag) (sp : GuardSpan) (lacks : Resource) : Report :=
  ⟨.holdDenied, some sp.window, some sp.record, some m, some lacks, 1⟩

/-- The BROKEN entry that a whole-record read frees (R55). -/
def freeOwnBroken (m : Tag) (w : WindowNo) (r : Nat) (s : State) : State :=
  match findHold s m w r with
  | none => s
  | some i => if s.holds[i].isSettledBroken then s.setHold i .cleared else s

/-- A segment granted and issued (R13), with the address and guard status of its case (Tables 3-3, 3-4, 4-4, 6-2). -/
def issueSegment (m : Tag) (q : Request) (g : Segment) (how : IssueKind) (s : State) : State :=
  let sp := segmentSpan s q g
  let w := sp.window
  let r := sp.record
  let e := s.dirEntry w r
  match how with
  | .plain => issuePlain m q g s
  | .ownView f =>
    issueGuardRead m q g sp (ownViewBank s f) .plain none (overlayFrom s.park (fillRef s f) sp.offset sp.length) s
  | .continuation i =>
    let h := s.holds[i]
    drainTest w (coverHold i sp.offset sp.length
      (issueGuardRead m q g sp h.pinnedBank (heldOrTorn h.damagedAtOpen) (some i) [] s))
  | .opening i =>
    let bank := readBank s w r
    coverHold i sp.offset sp.length
      (issueGuardRead m q g sp bank (heldOrTorn e.damaged) (some i) [] (loadHold i .opened m w r bank none s))
  | .denied lacks =>
    count .holdsDenied w (report (deniedReport m sp lacks)
      (issueGuardRead m q g sp (readBank s w r) .denied none [] s))
  | .wholeRecord =>
    issueGuardRead m q g sp (readBank s w r) (heldOrTorn e.damaged) none [] (freeOwnBroken m w r s)
  | .brokenContinuation i =>
    coverHold i sp.offset sp.length (issueGuardRead m q g sp (readBank s w r) .torn (some i) [] s)
  | .unguarded => issueGuardRead m q g sp (readBank s w r) (plainOrTorn e.damaged) none [] s
  | .fillWrite f => issueFillWrite m q g sp f s
  | .fillOpening f target yielding => issueFillOpening m q g sp f target yielding s

end Sys2Proof.Machine
end

