-- ==== Sys2Proof/Machine/Freshness.lean ====
section
/-! DEFINITION. The time base's tick, the countdowns that run out, and the sweeps (chapter 8). -/

namespace Sys2Proof.Machine

/-! ### One tick (R136 to R140) -/

/-- A countdown decremented, not below 0 (R138). -/
def countDown (x : BitVec 16) : BitVec 16 := if x = 0 then 0 else x - 1

/-- The hold or linger countdown of an entry at a tick (R60, R65); `limit` is its window's hold limit. A BROKEN entry
whose copy data is outstanding still names its slot and does not count (R63). -/
def Hold.tick (limit : BitVec 16) (h : Hold) : Hold :=
  match h.state with
  | .opened => if limit = 0 then h else { h with countdown := countDown h.countdown }
  | .broken => if h.slot = none then { h with countdown := countDown h.countdown } else h
  | .copying => h
  | .free => h

/-- The fill countdown at a tick (R83). -/
def Fill.tick (limit : BitVec 16) (x : Fill) : Fill :=
  if x.state = .active ∧ x.abandoned = false ∧ limit ≠ 0 then { x with countdown := countDown x.countdown } else x

/-- The drain countdown at a tick (R174). -/
def Window.tick (x : Window) : Window :=
  match x.state with
  | .draining n forced => if forced then x else { x with state := .draining (countDown n) false }
  | .off => x
  | .live => x

/-- The alert age countdown at a tick: it runs while the latency is not 0 and the queue not empty (R155). -/
def EventUnit.tick (u : EventUnit) : EventUnit :=
  if u.control.latency ≠ 0 ∧ u.queue.isEmpty = false then { u with age := countDown u.age } else u

/-- A window's comparator is armed and its deadline is the new value of the time base (R139). -/
def Window.matchesAt (now : BitVec 32) (x : Window) : Bool :=
  x.decoded && decide (x.curFresh ≠ .off) && decide (x.curDeadline = now)

/-- What a match does to the live fields (R25, R139). -/
def Window.matched (x : Window) : Window :=
  match x.curFresh with
  | .repeating => { x with curDeadline := x.curDeadline + x.cfg.period }
  | .once => { x with curFresh := .off }
  | .off => x

/-- SWEEP_OVERRUN of window w: no record index, no master (R140). -/
def overrunReport (w : WindowNo) : Report := ⟨.sweepOverrun, some w, none, none, none, 1⟩

/-- A sweep of w requested by its match: it joins the pending set, or is an overrun (R140). -/
def requestSweep (w : WindowNo) (s : State) : State :=
  if hasBit s.pendingSweeps w ∨ s.sweep.any (fun x => decide (x.window = w)) then report (overrunReport w) s
  else { s with pendingSweeps := joinBit s.pendingSweeps w }

def requestSweeps : List WindowNo → State → State
  | [], s => s
  | w :: ws, s => requestSweeps ws (requestSweep w s)

/-- The time base advances by one and every running countdown is decremented (R136, R138). -/
def advanceTime (s : State) : State :=
  { s with
    timeBase := { s.timeBase with value := s.timeBase.value + 1 }
    holds := tableMap (fun _ h => h.tick (s.cfg h.window).holdLimit) s.holds
    fills := tableMap (fun _ x => x.tick (s.cfg x.window).fillLimit) s.fills
    windows := tableMap (fun _ x => x.tick) s.windows
    events := s.events.tick }

/-- The comparators tested at the new value; the order of several overruns is free (R139, R140, log 10). -/
def compareDeadlines (s : State) : State :=
  let ws := tableAll (Window.matchesAt s.timeBase.value) s.windows
  let now := s.timeBase.value
  requestSweeps (freeOrder s.freeCount ws)
    { s.drawn with windows := tableMap (fun _ x => if x.matchesAt now then x.matched else x) s.windows }

/-- One tick (R136 to R140). What runs out at it is due as steps of its own (log 4): the comparators' matches and the
reports of their overruns come before every run-out of the tick and its reports (DESIGN CHOICE, log 33). -/
def tickStep (s : State) : State := compareDeadlines (advanceTime s)

/-! ### What has run out (R138) -/

/-- A running hold countdown stands at 0: the hold has run out (R60). -/
def holdRanOut (s : State) (i : HoldNo) : Bool :=
  let h := s.holds[i]
  decide (h.state = .opened) && decide ((s.cfg h.window).holdLimit ≠ 0) && decide (h.countdown = 0)

/-- A running linger stands at 0 (R65). -/
def lingerRanOut (s : State) (i : HoldNo) : Bool :=
  s.holds[i].isSettledBroken && decide (s.holds[i].countdown = 0)

/-- A running fill countdown stands at 0 (R83). -/
def fillRanOut (s : State) (f : FillNo) : Bool :=
  let x := s.fills[f]
  decide (x.state = .active) && !x.abandoned && decide ((s.cfg x.window).fillLimit ≠ 0) && decide (x.countdown = 0)

/-- A running drain countdown stands at 0 (R174). -/
def drainRanOut (s : State) (w : WindowNo) : Bool :=
  match s.windows[w].state with
  | .draining n forced => !forced && decide (n = 0)
  | .off => false
  | .live => false

/-- A hold that has run out is broken with reason EXPIRED (R60). HOLD_EXPIRED comes before the DRAIN_DONE of a drain that
the break completes (DESIGN CHOICE, log 32). -/
def expireHold (i : HoldNo) (s : State) : State :=
  if holdRanOut s i then drainTest s.holds[i].window (breakHold .expired i s) else s

/-- A BROKEN entry whose linger has run out becomes FREE, without event or counter (R65). -/
def expireLinger (i : HoldNo) (s : State) : State := if lingerRanOut s i then s.setHold i .cleared else s

/-- A fill that has run out is abandoned with cause EXPIRED (R83). FILL_ABANDONED comes before the DRAIN_DONE of a drain
that the end of the fill completes (DESIGN CHOICE, log 32). -/
def expireFill (f : FillNo) (s : State) : State :=
  if fillRanOut s f then drainTest s.fills[f].window (abandonFill f s) else s

/-- A drain that has run out is forced (R174). -/
def expireDrain (w : WindowNo) (s : State) : State := if drainRanOut s w then forceDrain w s else s

/-! ### Sweeps (R141 to R143) -/

/-- The lowest-numbered window of the pending-sweep set. -/
def firstPending (s : State) : Option WindowNo := (List.finRange 16).find? (hasBit s.pendingSweeps)

/-- The free engine takes the lowest-numbered pending window (R141). -/
def startSweep (s : State) : State :=
  match s.sweep with
  | some _ => s
  | none =>
    match firstPending s with
    | none => s
    | some w => { s with pendingSweeps := dropBit s.pendingSweeps w, sweep := some ⟨w, 0, 0, none⟩ }

/-- The flags after a visit (R41). -/
def visitedEntry (e : DirEntry) : DirEntry := if e.fresh then { e with fresh := false } else { e with stale := true }

/-- The sweep after a visit to its next record, found stale or not (R142). -/
def Sweep.visited (x : Sweep) (isStale : Bool) : Sweep :=
  if isStale then { x with next := x.next + 1, staleCount := x.staleCount + 1, firstStale := some (x.firstStale.getD x.next) }
  else { x with next := x.next + 1 }

/-- STALE_SWEEP (R143). -/
def staleSweepReport (x : Sweep) : Report :=
  ⟨.staleSweep, some x.window, x.firstStale, none, none, .ofNat 16 x.staleCount⟩

/-- The end of a sweep that has visited its last record (R143); else it goes on. -/
def endSweep (x : Sweep) (s : State) : State :=
  if (s.cfg x.window).count.toNat ≤ x.next then
    let s1 := { s with sweep := none }
    if 0 < x.staleCount then report (staleSweepReport x) s1 else s1
  else { s with sweep := some x }

/-- The running sweep visits its next record (R142). -/
def visitSweep (s : State) : State :=
  match s.sweep with
  | none => s
  | some x =>
    let i := (s.cfg x.window).dirIndex x.next
    let e := dirGet s.directory i
    endSweep (x.visited (!e.fresh)) (s.setDir i (visitedEntry e))

end Sys2Proof.Machine
end

