-- ==== Sys2Proof/Machine/Settle.lean ====
section
/-! DEFINITION. Due steps: the consequences that the manual says follow at once, and that the table lists as steps of
their own (log 3, 4): run-outs of a tick, offers, the start of a sweep. Each is taken before any other event. -/

namespace Sys2Proof.Machine

/-- A step that is due. -/
inductive Due where
  | hold (i : HoldNo)
  | linger (i : HoldNo)
  | fill (f : FillNo)
  | drain (w : WindowNo)
  | alert
  | sweep
  | offer (m : Tag)
  deriving DecidableEq, Repr

/-- The segment at the head of lane m is to be offered. -/
def offerDue (s : State) (m : Tag) : Bool := decide (s.lanes[m].phase = .toOffer)

/-- The sweep engine is free and a window is pending (R141). -/
def sweepDue (s : State) : Bool := s.sweep.isNone && (firstPending s).isSome

/-- ALERT_N does not stand as its conditions say: a tick has brought the age countdown to 0 (R154, R155). -/
def alertDue (s : State) : Bool := decide (s.alertLow ≠ s.events.alertCondition)

/-- Every step that is due. -/
def dueSteps (s : State) : List Due :=
  ((List.finRange 32).filter (holdRanOut s)).map .hold
    ++ ((List.finRange 32).filter (lingerRanOut s)).map .linger
    ++ ((List.finRange 16).filter (fillRanOut s)).map .fill
    ++ ((List.finRange 16).filter (drainRanOut s)).map .drain
    ++ (if alertDue s then [.alert] else [])
    ++ (if sweepDue s then [.sweep] else [])
    ++ ((List.finRange 16).filter (offerDue s)).map .offer

/-- One due step taken. -/
def takeDue (d : Due) (s : State) : State :=
  match d with
  | .hold i => expireHold i s
  | .linger i => expireLinger i s
  | .fill f => expireFill f s
  | .drain w => expireDrain w s
  | .alert => driveAlert s
  | .sweep => startSweep s
  | .offer m => if offerDue s m then offer m s else s

/-- Due steps taken until none is left, a free value choosing among several (log 3). -/
def settleFor : Nat → State → State
  | 0, s => s
  | n + 1, s =>
    match dueSteps s with
    | [] => s
    | [d] => settleFor n (takeDue d s)
    | d :: e :: ds =>
      settleFor n (takeDue ((d :: e :: ds).getD (Config.dueChoice s.freeCount % (ds.length + 2)) d) s.drawn)

/-- More than the due steps one event can leave: each takes a word of a lane, changes a phase, or ends a countdown. -/
def settleFuel : Nat := 20000

/-- Every due step taken. -/
def settle (s : State) : State := settleFor settleFuel s

/-- Nothing is due. -/
abbrev State.Settled (s : State) : Prop := dueSteps s = []

end Sys2Proof.Machine
end

