-- ==== Sys2Proof/Machine/Layouts.lean ====
section
/-! DEFINITION. The layouts of the management link (section 10.7), most significant byte first. -/

namespace Sys2Proof.Machine

/-! ### Numbers -/

def byte (n : Nat) : Byte := .ofNat 8 n
def bytes2 (x : BitVec 16) : List Byte := [x.extractLsb' 8 8, x.extractLsb' 0 8]
def bytes4 (x : BitVec 32) : List Byte :=
  [x.extractLsb' 24 8, x.extractLsb' 16 8, x.extractLsb' 8 8, x.extractLsb' 0 8]

/-- Byte i of a list of argument bytes. -/
def byteAt (bs : List Byte) (i : Nat) : Byte := bs.getD i 0
def half (bs : List Byte) (i : Nat) : BitVec 16 := byteAt bs i ++ byteAt bs (i + 1)
def word4 (bs : List Byte) (i : Nat) : BitVec 32 := half bs i ++ half bs (i + 2)

/-- A word address as sent (section 10.7). -/
def bytesAddr (a : WordAddr) : List Byte := bytes4 (a.setWidth 32)

/-- A field that is absent is sent as all ones (section 10.7). -/
def byteOr (x : Option Nat) : Byte := match x with | some n => byte n | none => 0xFF
def bytes2Or (x : Option Nat) : List Byte := match x with | some n => bytes2 (.ofNat 16 n) | none => [0xFF, 0xFF]

def bit (b : Bool) (k : Nat) : Nat := if b then 2 ^ k else 0

/-! ### Window entry (Table 10-3) -/

def WinState.code : WinState → Nat
  | .off => 0
  | .live => 1
  | .draining _ _ => 2

def Mode.code : Mode → Nat
  | .single => 0
  | .banked => 1
  | .snap => 2

def Producer.code : Producer → Nat
  | .master m => m.val
  | .any => 0x10

def YieldPolicy.code : YieldPolicy → Nat
  | .readersFirst => 0
  | .writerFirst => 1

def FreshMode.code : FreshMode → Nat
  | .off => 0
  | .once => 1
  | .repeating => 2

def StalePolicy.code : StalePolicy → Nat
  | .pass => 0
  | .fault => 1

def BankGuard.code : BankGuard → Nat
  | .openGuard => 0
  | .protectedGuard => 1

/-- Bytes 1 to 43 of Table 10-3. -/
def configBytes (c : WinConfig) : List Byte :=
  [byte c.mode.code, c.bankCount] ++ bytesAddr c.faceBase ++ [c.size, c.guardLen] ++ bytes2 c.count ++ bytes2 c.dirStart
    ++ bytesAddr c.bank0 ++ bytesAddr c.bank1 ++ bytesAddr c.bank2 ++ [byte c.producer.code, byte c.yieldPolicy.code]
    ++ bytes2 c.holdLimit ++ bytes2 c.fillLimit ++ bytes2 c.drainLimit ++ [byte c.freshMode.code] ++ bytes4 c.period
    ++ bytes4 c.firstDeadline ++ [byte c.stalePolicy.code, byte c.bankGuard.code]

/-- The 49 bytes of READ_WINDOW (Table 10-3). -/
def windowBytes (x : Window) : List Byte :=
  [byte x.state.code] ++ configBytes x.cfg ++ bytes4 x.curDeadline ++ [byte x.curFresh.code]

def modeOf (b : Byte) : Option Mode :=
  if b = 0 then some .single else if b = 1 then some .banked else if b = 2 then some .snap else none

def producerOf (b : Byte) : Option Producer :=
  if h : b.toNat < 16 then some (.master ⟨b.toNat, h⟩) else if b = 0x10 then some .any else none

def yieldOf (b : Byte) : Option YieldPolicy :=
  if b = 0 then some .readersFirst else if b = 1 then some .writerFirst else none

def freshOf (b : Byte) : Option FreshMode :=
  if b = 0 then some .off else if b = 1 then some .once else if b = 2 then some .repeating else none

def staleOf (b : Byte) : Option StalePolicy :=
  if b = 0 then some .pass else if b = 1 then some .fault else none

def guardOf (b : Byte) : Option BankGuard :=
  if b = 0 then some .openGuard else if b = 1 then some .protectedGuard else none

/-- A base word address above 3FFFFFFFh is none (R167). -/
def addrOf (x : BitVec 32) : Option WordAddr := if x.toNat < 2 ^ 30 then some (.ofNat 30 x.toNat) else none

/-- The configured fields that WRITE_WINDOW's arguments carry (byte i of Table 10-3 is argument byte i), or none where
an enumerated byte holds no named value or a base lies above 3FFFFFFFh (R167). -/
def parseConfig (a : List Byte) : Option WinConfig :=
  match modeOf (byteAt a 1), addrOf (word4 a 3), addrOf (word4 a 13), addrOf (word4 a 17), addrOf (word4 a 21),
    producerOf (byteAt a 25), yieldOf (byteAt a 26), freshOf (byteAt a 33), staleOf (byteAt a 42), guardOf (byteAt a 43) with
  | some mode, some face, some b0, some b1, some b2, some producer, some yieldPolicy, some fresh, some stale, some bankGuard =>
    some {
      mode := mode, bankCount := byteAt a 2, faceBase := face, size := byteAt a 7, guardLen := byteAt a 8,
      count := half a 9, dirStart := half a 11, bank0 := b0, bank1 := b1, bank2 := b2, producer := producer,
      yieldPolicy := yieldPolicy, holdLimit := half a 27, fillLimit := half a 29, drainLimit := half a 31,
      freshMode := fresh, period := word4 a 34, firstDeadline := word4 a 38, stalePolicy := stale, bankGuard := bankGuard }
  | _, _, _, _, _, _, _, _, _, _ => none

/-! ### Directory entry (Table 10-4) -/

def dirEntryBytes (e : DirEntry) : List Byte :=
  [byte e.activeBank.val] ++ bytes2 e.version ++ [byte (bit e.fresh 0 + bit e.stale 1 + bit e.damaged 2)]
    ++ bytes4 e.publishedAt

/-! ### Hold entry (Table 10-5) -/

def HoldState.code : HoldState → Nat
  | .free => 0
  | .copying => 1
  | .opened => 2
  | .broken => 3

def BreakReason.code : BreakReason → Nat
  | .expired => 1
  | .yielded => 2
  | .drain => 3
  | .management => 4

/-- The 15 bytes of READ_HOLD. The break reason is sent as 0 when absent (section 10.7). -/
def holdBytes (h : Hold) : List Byte :=
  [byte h.state.code, byte h.master.val, byte h.window.val] ++ bytes2 (.ofNat 16 h.record) ++ bytes2 h.versionSeen
    ++ [byte (bit h.damagedAtOpen 0 + bit h.leftService 1), byteOr (h.pinnedBank.map Fin.val), byteOr (h.slot.map Fin.val)]
    ++ bytes2 h.coverage ++ bytes2 h.countdown ++ [byte ((h.reason.map BreakReason.code).getD 0)]

/-! ### Event record (Table 10-6) -/

def Resource.code : Resource → Nat
  | .entry => 1
  | .slot => 2
  | .both => 3

/-- The 12 bytes of an event record. The resource is sent as 0 when absent (section 10.7). -/
def eventBytes (e : EventRecord) : List Byte :=
  [byte e.kind.code, byteOr (e.window.map Fin.val)] ++ bytes2Or e.record
    ++ [byteOr (e.master.map Fin.val), byte ((e.resource.map Resource.code).getD 0)] ++ bytes4 e.stamp ++ bytes2 e.detail

def RunState.code : RunState → Nat
  | .stopped => 0
  | .running => 1

def counterBytes (c : Counters) : List Byte :=
  bytes4 c.holdsOpened ++ bytes4 c.holdsBroken ++ bytes4 c.holdsDenied ++ bytes4 c.fillsPublished
    ++ bytes4 c.fillsAbandoned ++ bytes4 c.writesParked

/-- The 3 bytes of a stored-kinds set: kind code k is bit k - 1 (R169). -/
def storedBytes (x : BitVec 18) : List Byte :=
  [(x.setWidth 24).extractLsb' 16 8, (x.setWidth 24).extractLsb' 8 8, (x.setWidth 24).extractLsb' 0 8]

/-! ### Status (Table 10-7) -/

def nonFreeHolds (s : State) : Nat := (tableAll (fun h : Hold => decide (h.state ≠ .free)) s.holds).length
def nonFreeFills (s : State) : Nat := (tableAll (fun x : Fill => decide (x.state ≠ .free)) s.fills).length
def nonFreeSlots (s : State) : Nat := (tableAll (fun x : Slot => decide (x ≠ .free)) s.slots).length

/-- The 50 bytes of STATUS. -/
def statusBytes (s : State) : List Byte :=
  ((List.finRange 16).map fun w => byte s.windows[w].state.code)
    ++ ((List.finRange 16).map fun m => byte s.lanes[m].reqs.length)
    ++ [byte s.inFlight.length, byte (nonFreeHolds s), byte (nonFreeFills s), byte s.park.length, byte (nonFreeSlots s),
        byte s.events.queue.length]
    ++ bytes2 s.events.lost ++ [byte s.timeBase.run.code] ++ bytes2 s.pendingSweeps
    ++ [byteOr (s.sweep.map fun x => x.window.val)] ++ storedBytes s.events.control.stored
    ++ [byte s.events.control.threshold] ++ bytes2 s.events.control.latency

/-! ### Responses (R163, Table 10-2) -/

def FrameResult.code : FrameResult → Nat
  | .none => 0
  | .accepted => 1
  | .rejected => 2
  | .lengthError => 3
  | .checkFailed => 4
  | .unknownCommand => 5

/-- The reasons of a rejection (Table 10-2). -/
inductive Reason where
  | windowNotOff
  | windowOff
  | badIndex
  | badFlags
  | badBank
  | badArgument
  | badSize
  | badGuard
  | bankCount
  | rangeWrap
  | directoryRange
  | directoryOverlap
  | faceOverlap
  | bankOverlap
  | limitRequired
  | badPeriod
  deriving DecidableEq, Repr

def Reason.code : Reason → Byte
  | .windowNotOff => 0x01
  | .windowOff => 0x02
  | .badIndex => 0x03
  | .badFlags => 0x04
  | .badBank => 0x05
  | .badArgument => 0x06
  | .badSize => 0x10
  | .badGuard => 0x11
  | .bankCount => 0x12
  | .rangeWrap => 0x13
  | .directoryRange => 0x14
  | .directoryOverlap => 0x15
  | .faceOverlap => 0x16
  | .bankOverlap => 0x17
  | .limitRequired => 0x18
  | .badPeriod => 0x19

/-- The bytes of a response before its check byte: result, command, data length, data (R163). -/
def Response.body (r : Response) : List Byte := [byte r.result.code, r.command, byte r.data.length] ++ r.data

/-- A response as FETCH clocks it out, with its check byte (R163). -/
def Response.bytes (r : Response) : List Byte := r.body ++ [checkByte r.body]

/-- The NONE response of an EMPTY holder (R164). -/
def noneResponse : Response := ⟨.none, 0, []⟩

end Sys2Proof.Machine
end

