-- ==== Sys2Proof/WellFormed.lean ====
section
/-! DEFINITION. Which commands can be presented to the part at all (section 1.1, R160, R161). -/

namespace Sys2Proof

/-- The command codes of Table 10-1. -/
def commandCodes : List Byte :=
  [0x01, 0x02, 0x10, 0x11, 0x12, 0x13, 0x18, 0x19, 0x20, 0x21, 0x28, 0x30, 0x31, 0x38, 0x39, 0x3A, 0x5A, 0x7E]

/-- The length field of MTP encodes 1 to 16 words; another length cannot be presented (section 1.1). -/
def burstOk (n : Nat) : Bool := decide (1 ≤ n) && decide (n ≤ Config.maxBurst)

/-- A downstream read response has the beats of some request of 1 to 16 words. -/
def MemResponse.lengthOk : MemResponse → Bool
  | .read bs => burstOk bs.length
  | .write _ => true

/-- The check of a command on its operands alone. -/
def Instr.wellFormed : Instr → Bool
  | .requestArrival _ _ body => burstOk body.length
  | .segmentResponse resp => resp.lengthOk
  | .copyResponse beats => burstOk beats.length
  | .strayResponse resp => resp.lengthOk
  | .frameAbort bytes bits => bytes.isEmpty || decide (bits ≠ 0)
  | .unknownCommand code _ => !commandCodes.contains code
  | .segmentOffer _ | .laneSegmentGrant | .copyRequestGrant | .parkReleaseGrant | .parkReleaseResponse _
  | .responseDelivery | .tick | .holdExpired _ | .lingerExpiry _ | .fillExpiry _ | .drainCountdownExpiry _
  | .alertAgeExpiry | .sweepStart | .sweepVisit | .drainCompletion _ | .frameStart
  | .identify _ | .status _ | .readWindow _ | .writeWindow _ | .enableWindow _ | .disableWindow _ | .readRecord _
  | .writeRecord _ | .readHold _ | .breakHolds _ | .readEvents _ | .readCounters _ | .clearCounters _
  | .setTimebase _ | .readTimebase _ | .setEventControl _ | .softReset _ | .fetch _ | .pinReset | .resetRelease =>
    true

end Sys2Proof
end

