-- ==== Sys2Proof/Machine/TransactionPath.lean ====
section
/-! DEFINITION. The commands of the transaction path (chapter 1): arrival, offer, the three grants, the four responses,
delivery. Each first takes the steps that are due (log 3). -/

namespace Sys2Proof.Machine

abbrev Result := Host.Outcome State Fault Refusal

/-! ### Arrival (R1, R4, R5) -/

/-- A request as it joins its lane: every word untaken. -/
def newRequest (place : Fin 4) (addr : WordAddr) (body : Body) : Request :=
  ⟨place, addr, body, List.replicate body.length .untaken⟩

/-- The request joins the tail of the lane; in a lane without a head it becomes AT HEAD at once (R1, R5). -/
def Lane.join (addr : WordAddr) (body : Body) (l : Lane) : Lane :=
  let l1 := { l with reqs := l.reqs ++ [newRequest l.nextPlace addr body], nextPlace := l.nextPlace + 1 }
  if l.head.isNone then l1.advance else l1

/-- Lane m accepts the request when it holds fewer than 4; otherwise the request stays with the interconnect (R1). -/
def acceptRequest (m : Tag) (addr : WordAddr) (body : Body) (s : State) : State :=
  if s.lanes[m].reqs.length < Config.laneDepth then grantResponse (s.setLane m (s.lanes[m].join addr body)) else s

/-- REQUEST_ARRIVAL. While RESET_N is low no request is accepted (R20). -/
def execRequestArrival (m : Tag) (addr : WordAddr) (body : Body) (s : State) : Result :=
  if burstOk body.length then
    .next (if s.resetLow then s else acceptRequest m addr body (settle s))
  else .refused .illFormed

/-! ### Offer (R5, R14) -/

/-- SEGMENT_OFFER of lane m, when its first untaken segment is due to be offered. -/
def execSegmentOffer (m : Tag) (s : State) : Result := .next (if offerDue s m then offer m s else s)

/-! ### Grants (R13, R19) -/

def ParkEntry.isReleased (e : ParkEntry) : Bool :=
  match e.condition with
  | .parked => false
  | .released _ => true

/-- The in-flight entry of an issued copy request (R17, R124). -/
def CopyRequest.toInFlight (k : CopyRequest) : InFlight :=
  ⟨⟨k.addr, .read k.length⟩, .copy k.slot k.hold k.window k.record k.master false⟩

/-- The oldest-created copy request is issued, and the writes stalled behind it are re-offered (R124, R127). -/
def grantCopy (s : State) : State :=
  match s.copies with
  | [] => s
  | k :: ks => if canIssue s then copyMoved k.window k.record (issue k.toInFlight { s with copies := ks }) else s

/-- COPY_REQUEST_GRANT. -/
def execCopyRequestGrant (s : State) : Result := .next (grantCopy (settle s))

/-- The queue without its earliest RELEASED entry, and that entry with its release address (R101). -/
def firstReleased : List ParkEntry → Option (ParkEntry × WordAddr × List ParkEntry)
  | [] => none
  | e :: es =>
    match e.condition with
    | .released a => some (e, a, es)
    | .parked => (firstReleased es).map fun (x, a, rest) => (x, a, e :: rest)

/-- The in-flight entry of an issued release (R102). -/
def ParkEntry.toInFlight (e : ParkEntry) (a : WordAddr) : InFlight :=
  ⟨⟨a, .write [e.word]⟩, .release e.fill e.window e.record e.dirIndex e.master e.offset⟩

/-- The parked count of the entry's fill falls by one, and the fill publishes or ends when that was its last word
(R84, R101); an entry without a fill changes no fill (R107). -/
def fillReleased (ref : Option FillRef) (s : State) : State :=
  match ref with
  | none => s
  | some f =>
    if refersTo f s then
      fillIssued f.index (s.setFill f.index { s.fills[f.index] with parked := s.fills[f.index].parked - 1 })
    else s

/-- The earliest RELEASED entry leaves the queue and is issued as a one-word write (R101). FILL_PUBLISHED comes before the
DRAIN_DONE of a drain that the issue completes (DESIGN CHOICE, log 32). -/
def grantRelease (s : State) : State :=
  if canIssue s && s.copies.isEmpty then
    match firstReleased s.park with
    | none => s
    | some (e, a, rest) =>
      let s1 := reofferWhen Stall.isAnyParkRoom (issue (e.toInFlight a) { s with park := rest })
      drainTest e.window (fillReleased e.fill s1)
  else s

/-- PARK_RELEASE_GRANT. -/
def execParkReleaseGrant (s : State) : Result := .next (grantRelease (settle s))

/-- The lane head is a candidate of the Issue Arbiter (R19). -/
def laneCandidate (s : State) (m : Tag) : Bool := decide (s.lanes[m].phase = .candidate)

/-- The lane the Issue Arbiter chooses among the lane heads (R19). -/
def nextLane (s : State) : Option Tag := (roundRobin s.lastIssueLane).find? (laneCandidate s)

/-- The Issue Arbiter may grant a lane head: room in flight, no copy request and no release waiting (R19). -/
def laneTurn (s : State) : Bool := canIssue s && s.copies.isEmpty && !(s.park.any ParkEntry.isReleased)

/-- The grant of the issue slot to lane m: the segment is judged again. It is issued, and the lane is the last one
granted; or it takes its other fate, the lane does not use the grant, and the arbiter chooses `again` (R13, R19). -/
def grantLane (again : State → State) (m : Tag) (s : State) : State :=
  match headSegment s m with
  | none => again s
  | some (q, g) =>
    match decideSegment s m q g with
    | .issue how => issueSegment m q g how { s with lastIssueLane := m }
    | .refuse event => again (carryOut m q g (.refuse event) s)
    | .serve i => again (carryOut m q g (.serve i) s)
    | .bind i k => again (carryOut m q g (.bind i k) s)
    | .park f => again (carryOut m q g (.park f) s)
    | .parkOpening f => again (carryOut m q g (.parkOpening f) s)
    | .stall why => again (carryOut m q g (.stall why) s)
    | .stallFillTable => again (carryOut m q g .stallFillTable s)
    | .stallParkRoom => again (carryOut m q g .stallParkRoom s)

/-- A grant that a lane did not use, chosen again (R13, R19): a copy request or a release that the lane's other fate
brought about comes first, then `lanes`, the lanes that remain. -/
def grantAgain (lanes : State → State) (s : State) : State :=
  if s.copies.isEmpty then
    if s.park.any ParkEntry.isReleased then grantRelease s else lanes s
  else grantCopy s

/-- The grant offered to the listed lanes in turn, until one uses it (R13, R19). A lane that did not use it is not
offered it again in the event (DEDUCED, log 20). -/
def grantRound : List Tag → State → State
  | [], s => s
  | m :: ms, s => if laneCandidate s m then grantLane (grantAgain (grantRound ms)) m s else grantRound ms s

/-- A grant at the lane heads, in the order of the round robin (R19). -/
def grantNextLane (s : State) : State := if laneTurn s then grantRound (roundRobin s.lastIssueLane) s else s

/-- LANE_SEGMENT_GRANT. -/
def execLaneSegmentGrant (s : State) : Result := .next (grantNextLane (settle s))

/-! ### Responses (R17, R18) -/

/-- Memory's beats under the overlay of an own-view read (R88); a read without overlay is as memory returned it. -/
def overlayBeats : List MemBeat → List WriteWord → List MemBeat
  | bs, [] => bs
  | [], _ :: _ => []
  | b :: bs, o :: os => { b with data := overlayWord b.data o } :: overlayBeats bs os

/-- The guard status fixed at the take of a word that waits (R48). -/
def WordState.guardOf : WordState → GuardStatus
  | .untaken => .plain
  | .pending g => g
  | .done b => b.guard

/-- A waiting word answered by a beat of memory (R2). -/
def answerWord (w : WordState) (b : MemBeat) : WordState := .done ⟨b.data, b.status, w.guardOf⟩

/-- The beats of a read response placed in the lane (R17). -/
def answerRead (p : LanePos) (overlay : List WriteWord) (beats : List MemBeat) (s : State) : State :=
  placeWords p (fun old => List.zipWith answerWord old (overlayBeats beats overlay)) s

/-- What a FAULT answer to an issued fill write does at the Fill Engine (R86). -/
def faultFillWrite (m : Tag) (o : GuardWriteOrigin) (s : State) : State :=
  report (.of .fillWriteFault o.window o.record m) (fillWriteFaulted o.dirIndex (some o.fill) s)

/-- The outcome of a write response placed in the lane, and its FAULT given to the Fill Engine (R17, R86). -/
def answerWrite (p : LanePos) (origin : Option GuardWriteOrigin) (status : BeatStatus) (s : State) : State :=
  let s1 := placeWords p (fun old => old.map fun _ => .done ⟨0, status, .plain⟩) s
  match origin with
  | none => s1
  | some o =>
    match status with
    | .okay => s1
    | .fault => faultFillWrite p.lane o s1

/-- A response for the oldest request in flight, when that is a lane segment. -/
def respondSegment (resp : MemResponse) (s : State) : Result :=
  match s.inFlight with
  | [] => .next s
  | x :: rest =>
    let s1 := { s with inFlight := rest }
    match x.origin, resp with
    | .laneRead p _ overlay, .read beats =>
      if beats.length = p.length then .next (answerRead p overlay beats s1) else .fault .malformedResponse
    | .laneWrite p origin, .write status => .next (answerWrite p origin status s1)
    | .laneRead _ _ _, .write _ => .fault .malformedResponse
    | .laneWrite _ _, .read _ => .fault .malformedResponse
    | .copy _ _ _ _ _ _, _ => .next s
    | .release _ _ _ _ _ _, _ => .next s

/-- SEGMENT_RESPONSE. -/
def execSegmentResponse (resp : MemResponse) (s : State) : Result := respondSegment resp (settle s)

/-- Length of the bound lead read of a lane, 0 when none is bound. -/
def Lane.boundLength (l : Lane) : Nat :=
  match l.phase with
  | .bound n => n
  | .idle => 0
  | .toOffer => 0
  | .candidate => 0
  | .stalled _ => 0

/-- The bound lead read of lane m taken with the given fates; the lane goes on (R129, R130). -/
def takeBound (m : Tag) (fates : Nat → List WordState) (s : State) : State :=
  match s.lanes[m].phase with
  | .bound n => takeWords m (fates n) s
  | .idle => s
  | .toOffer => s
  | .candidate => s
  | .stalled _ => s

/-- The copy of a COPYING hold has returned (R129): the slot is LOADED, the hold OPEN, the lead read served. -/
def openFromCopy (i : HoldNo) (k : SlotNo) (m : Tag) (ws : List Word) (s : State) : State :=
  let h := s.holds[i]
  let b := s.lanes[m].boundLength
  let count := (s.cfg h.window).guardLen.toNat
  let s1 := (s.setSlot k (.loaded i count (ws.take count))).setHold i { h with state := .opened }
  let s2 := takeBound m (slotBeats ws (heldOrTorn h.damagedAtOpen) 0) s1
  drainTest h.window (copyMoved h.window h.record (coverHold i 0 b s2))

/-- The copy of a hold broken while COPYING has returned (R63, R129): the lead read is served TORN from the slot, which
is then FREE; the entry is freed when it has left service or is covered, else its linger starts to run. -/
def endBrokenCopy (i : HoldNo) (k : SlotNo) (m : Tag) (ws : List Word) (s : State) : State :=
  let h := s.holds[i]
  let b := s.lanes[m].boundLength
  let coverage := h.coverage ||| offsetSet 0 b
  let s1 := takeBound m (slotBeats ws .torn 0) (s.setSlot k .free)
  if h.leftService ∨ covers (s.cfg h.window).guardLen.toNat coverage then s1.setHold i .cleared
  else s1.setHold i { h with slot := none, coverage := coverage }

/-- A copy response with every beat OKAY (R129). An orphaned copy touches no entry and no slot. -/
def copyReturned (i : HoldNo) (k : SlotNo) (m : Tag) (orphan : Bool) (ws : List Word) (s : State) : State :=
  if orphan then takeBound m (slotBeats ws .plain 0) s
  else
    match s.holds[i].state with
    | .copying => openFromCopy i k m ws s
    | .broken => endBrokenCopy i k m ws s
    | .opened => s
    | .free => s

/-- A copy response with a FAULT beat (R130): the lead read is refused, entry and slot are freed unless orphaned, and
COPY_FAULT is reported in every case, before the DRAIN_DONE of a drain that the failure completes (DESIGN CHOICE, log 32). -/
def copyFailed (i : HoldNo) (k : SlotNo) (w : WindowNo) (r : Nat) (m : Tag) (orphan : Bool) (s : State) : State :=
  let s1 := takeBound m (fun n => List.replicate n refusedWord) s
  let s2 := if orphan then s1 else copyMoved w r ((s1.setHold i .cleared).setSlot k .free)
  drainTest w (report (.of .copyFault w r m) s2)

/-- A response for the oldest request in flight, when that is a copy. -/
def respondCopy (beats : List MemBeat) (s : State) : Result :=
  match s.inFlight with
  | [] => .next s
  | x :: rest =>
    let s1 := { s with inFlight := rest }
    match x.origin with
    | .copy k i w r m orphan =>
      if beats.length = x.req.body.length then
        if beats.all fun b => decide (b.status = .okay) then
          .next (copyReturned i k m orphan (beats.map MemBeat.data) s1)
        else .next (copyFailed i k w r m orphan s1)
      else .fault .malformedResponse
    | .laneRead _ _ _ => .next s
    | .laneWrite _ _ => .next s
    | .release _ _ _ _ _ _ => .next s

/-- COPY_RESPONSE. -/
def execCopyResponse (beats : List MemBeat) (s : State) : Result := respondCopy beats (settle s)

/-- A response for the oldest request in flight, when that is a park release (R105). -/
def respondRelease (status : BeatStatus) (s : State) : State :=
  match s.inFlight with
  | [] => s
  | x :: rest =>
    let s1 := { s with inFlight := rest }
    match x.origin with
    | .release fill w r i m _ =>
      match status with
      | .okay => s1
      | .fault => report (.of .parkedWriteFault w r m) (fillWriteFaulted i fill s1)
    | .laneRead _ _ _ => s
    | .laneWrite _ _ => s
    | .copy _ _ _ _ _ _ => s

/-- PARK_RELEASE_RESPONSE. -/
def execParkReleaseResponse (status : BeatStatus) (s : State) : Result := .next (respondRelease status (settle s))

/-- STRAY_RESPONSE: a response that belongs to no request is accepted and discarded (R18). -/
def execStrayResponse (_resp : MemResponse) (s : State) : Result := .next s

/-! ### Delivery (R2, R3, R6, R7) -/

/-- The beat of an answered word. -/
def WordState.beat : WordState → Beat
  | .untaken => ⟨0, .okay, .plain⟩
  | .pending g => ⟨0, .okay, g⟩
  | .done b => b

/-- The one status of a write: FAULT if a segment was refused or answered FAULT (R3). -/
def writeStatus (ws : List WordState) : BeatStatus :=
  if ws.any fun w => decide (w.beat.status = .fault) then .fault else .okay

/-- The response of a COMPLETE request (R2, R3). -/
def Request.response (m : Tag) (q : Request) : UpResponse :=
  match q.body with
  | .read _ => .read m (q.words.map WordState.beat)
  | .write _ => .write m (writeStatus q.words)

/-- The granted lane delivers its oldest response, which leaves the lane; the arbiter records the lane and grants again
(R6, R7). -/
def deliver (s : State) : State :=
  match s.responseGrant with
  | none => s
  | some m =>
    match s.lanes[m].reqs with
    | [] => s
    | q :: qs =>
      if q.complete then
        grantResponse { s.setLane m { s.lanes[m] with reqs := qs } with
          delivered := some (q.response m), lastResponseLane := m, responseGrant := none }
      else s

/-- RESPONSE_DELIVERY. -/
def execResponseDelivery (s : State) : Result := .next (deliver (settle s))

end Sys2Proof.Machine
end

