-- ==== Sys2Proof/Machine/Time.lean ====
section
/-! DEFINITION. The commands of time: the tick, what it runs out, sweeps and drain completion (chapters 8 and 11). -/

namespace Sys2Proof.Machine

/-- TICK: none while STOPPED (R136) or while RESET_N is low (R147). -/
def execTick (s : State) : Result :=
  .next (if s.resetLow then s else if s.timeBase.run = .running then tickStep (settle s) else s)

/-- HOLD_EXPIRED of entry i (R60). -/
def execHoldExpired (i : HoldNo) (s : State) : Result := .next (expireHold i s)

/-- LINGER_EXPIRY of entry i (R65). -/
def execLingerExpiry (i : HoldNo) (s : State) : Result := .next (expireLinger i s)

/-- FILL_EXPIRY of entry f (R83). -/
def execFillExpiry (f : FillNo) (s : State) : Result := .next (expireFill f s)

/-- DRAIN_COUNTDOWN_EXPIRY of window w (R174). -/
def execDrainCountdownExpiry (w : WindowNo) (s : State) : Result := .next (expireDrain w s)

/-- ALERT_AGE_EXPIRY: the age condition has become true and drives ALERT_N (R154, R155). -/
def execAlertAgeExpiry (s : State) : Result := .next (if s.events.ageCondition then driveAlert s else s)

/-- SWEEP_START (R141). -/
def execSweepStart (s : State) : Result := .next (startSweep s)

/-- SWEEP_VISIT (R142). -/
def execSweepVisit (s : State) : Result := .next (visitSweep (settle s))

/-- DRAIN_COMPLETION of window w (R173). The completion takes place in the event whose report completes the window, so
in a run from reset nothing is left for this command (log 5). -/
def execDrainCompletion (w : WindowNo) (s : State) : Result := .next (drainTest w s)

end Sys2Proof.Machine
end

