-- ==== Sys2Proof/Machine/Frames.lean ====
section
/-! DEFINITION. Frames of the management link: their start, abort and judgement, the Response Holder, FETCH
(sections 10.1 and 10.2). The bytes of a frame come with the command that ends it (log 7). -/

namespace Sys2Proof.Machine

/-- What a block answers to a command it has run (R161): ACCEPTED with data, or REJECTED with a reason. -/
inductive Verdict where
  | accepted (data : List Byte)
  | rejected (why : Reason)
  deriving DecidableEq, Repr

/-- The response stored for a verdict (R163). -/
def Verdict.response (code : Byte) : Verdict → Response
  | .accepted data => ⟨.accepted, code, data⟩
  | .rejected why => ⟨.rejected, code, [why.code]⟩

/-- A response stored in the holder, replacing the one held (R163). -/
def store (r : Response) (s : State) : State := { s with link := { s.link with holder := some r } }

/-- CS_N has risen: the receiver returns to IDLE; `miso` is what the frame's bytes carried out (R160). -/
def endFrame (miso : List Byte) (s : State) : State :=
  { s with link := { s.link with csLow := false, receiver := .idle, miso := miso } }

/-- MISO carries 00h in every byte of a frame that is no FETCH (R160). -/
def zeros (n : Nat) : List Byte := List.replicate n 0

/-- CS_N rises on a frame of n bytes: it is taken when the receiver is RECEIVING; a frame whose CS_N fell before
RESET_N rose is ignored (R165); with CS_N high there is no frame to end (log 2). -/
def takeFrame (n : Nat) (taken : State → State) (s : State) : State :=
  if s.link.csLow then
    match s.link.receiver with
    | .receiving => taken (endFrame (zeros n) s)
    | .idle => endFrame (zeros n) s
  else s

/-- FRAME_START: CS_N falls. The receiver starts a frame with no bytes, unless RESET_N is low (R160, R165). -/
def execFrameStart (s : State) : Result :=
  .next (if s.link.csLow then s
    else { s with link := { s.link with csLow := true, receiver := if s.resetLow then .idle else .receiving } })

/-- The response that FETCH clocks out: the held one, or NONE (R164). -/
def fetchResponse (s : State) : Response := s.link.holder.getD noneResponse

/-- Free bytes, for the positions from k on (log 8). -/
def unstatedMiso (seed k : Nat) : Nat → List Byte
  | 0 => []
  | n + 1 => Config.misoAfterBadCheck seed k :: unstatedMiso seed (k + 1) n

/-- Exactly n bytes of a list, 00h beyond its end (R164). -/
def clocked (bs : List Byte) (n : Nat) : List Byte := (bs ++ zeros n).take n

/-- What MISO carries in a frame of FETCH: 00h in bytes 0 and 1, then the response from byte 2 on. What it carries there
after a bad check byte is not stated: free values (R160, R164, log 8). -/
def fetchMiso (s : State) (rest : List Byte) : List Byte :=
  if rest.headD 0x7D = 0x7D then zeros (min 2 (1 + rest.length)) ++ clocked (fetchResponse s).bytes (rest.length - 1)
  else zeros 2 ++ unstatedMiso s.freeCount 0 (rest.length - 1)

/-- The FETCH is complete: byte 1 is 7Dh and at least L + 4 response bytes have been clocked (R164). -/
def fetchComplete (s : State) (rest : List Byte) : Bool :=
  decide (rest.head? = some 0x7D) && decide ((fetchResponse s).bytes.length ≤ rest.length - 1)

/-- FETCH (R164). It stores no result. -/
def takeFetch (rest : List Byte) (s : State) : State :=
  let s1 := endFrame (fetchMiso s rest) s.drawn
  if fetchComplete s rest then { s1 with link := { s1.link with holder := none } } else s1

/-- FETCH. -/
def execFetch (rest : List Byte) (s : State) : Result := .next (takeFrame (1 + rest.length) (takeFetch rest) s)

/-- What MISO carried in an aborted frame; a byte cut short stands last, whole (log 7). -/
def abortMiso (s : State) (bytes : List Byte) (bits : Fin 8) : List Byte :=
  let n := bytes.length + (if bits = 0 then 0 else 1)
  match bytes with
  | [] => zeros n
  | b :: rest =>
    if b = 0x7E then (fetchMiso s (rest ++ zeros (n - bytes.length))).take n else zeros n

/-- FRAME_ABORT: the frame is discarded without effect (R160). -/
def execFrameAbort (bytes : List Byte) (bits : Fin 8) (s : State) : Result :=
  if bytes.isEmpty || decide (bits ≠ 0) then
    .next (takeFrame (bytes.length + (if bits = 0 then 0 else 1)) (fun s1 => endFrame (abortMiso s bytes bits) s1.drawn) s)
  else .refused .illFormed

/-- UNKNOWN_COMMAND: byte 0 is no command code (R161). -/
def execUnknownCommand (code : Byte) (rest : List Byte) (s : State) : Result :=
  if commandCodes.contains code then .refused .illFormed
  else .next (takeFrame (1 + rest.length) (store ⟨.unknownCommand, code, []⟩) s)

/-- A command run by its owner in one event, after the steps that are due, and its result stored (R161, R163). -/
def runCommand (code : Byte) (run : State → State × Verdict) (s : State) : State :=
  let (s1, v) := run (settle s)
  store (v.response code) s1

/-- A frame of a command other than FETCH judged in the order of R161: length, check byte, run. -/
def judge (code : Byte) (argLen : Nat) (run : List Byte → State → State × Verdict) (rest : List Byte) (s : State) : State :=
  if rest.length ≠ argLen + 1 then store ⟨.lengthError, code, []⟩ s
  else if rest.getLast? ≠ some (checkByte (code :: rest.dropLast)) then store ⟨.checkFailed, code, []⟩ s
  else runCommand code (run rest.dropLast) s

/-- A command frame taken at CS_N rise (R160, R161). -/
def commandFrame (code : Byte) (argLen : Nat) (run : List Byte → State → State × Verdict) (rest : List Byte) (s : State) :
    Result :=
  .next (takeFrame (1 + rest.length) (judge code argLen run rest) s)

end Sys2Proof.Machine
end

