-- ==== Sys2Proof/Machine/Management.lean ====
section
/-! DEFINITION. The management commands other than FETCH and SOFT_RESET (sections 10.3 to 10.5): their checks in the
order of their rules, and their effects. Each is run in one event after the length and check byte of its frame (R161). -/

namespace Sys2Proof.Machine

/-! ### Arguments and answers -/

/-- A window byte from 0 to 15. -/
def windowOf (b : Byte) : Option WindowNo := if h : b.toNat < 16 then some ⟨b.toNat, h⟩ else none

/-- An entry index byte from 0 to 31. -/
def holdOf (b : Byte) : Option HoldNo := if h : b.toNat < 32 then some ⟨b.toNat, h⟩ else none

/-- A bank byte from 0 to 2. -/
def bankOf (b : Byte) : Option Bank := if h : b.toNat < 3 then some ⟨b.toNat, h⟩ else none

/-- An option byte: 00h is clear, any other value set (R167, R169). -/
def optionSet (b : Byte) : Bool := decide (b ≠ 0)

/-- A refusal changes nothing. -/
def rejected (why : Reason) (s : State) : State × Verdict := (s, .rejected why)

/-- ACCEPTED without data. -/
def accepted (s : State) : State × Verdict := (s, .accepted [])

/-- A command that returns data and changes nothing. -/
def answered (data : List Byte) (s : State) : State × Verdict := (s, .accepted data)

/-- A command on the window its first argument byte names; above 15 it is REJECTED with BAD_INDEX (R167). -/
def onWindow (args : List Byte) (run : WindowNo → State → State × Verdict) (s : State) : State × Verdict :=
  match windowOf (byteAt args 0) with
  | none => rejected .badIndex s
  | some w => run w s

/-! ### IDENTIFY and STATUS (R166) -/

/-- Vendor code 4B36h, part code 4318h, revision 01h. -/
def identityBytes : List Byte := [0x4B, 0x36, 0x43, 0x18, 0x01]

def runIdentify (_args : List Byte) (s : State) : State × Verdict := answered identityBytes s

def runStatus (_args : List Byte) (s : State) : State × Verdict := answered (statusBytes s) s

/-! ### READ_WINDOW and WRITE_WINDOW (R24) -/

def runReadWindow (args : List Byte) (s : State) : State × Verdict :=
  onWindow args (fun w => answered (windowBytes s.windows[w])) s

/-- All configured fields of an OFF window replaced; its state and live fields stay (R24). -/
def runWriteWindow (args : List Byte) (s : State) : State × Verdict :=
  onWindow args (fun w s =>
    if s.windows[w].decoded then rejected .windowNotOff s
    else
      match parseConfig args with
      | none => rejected .badArgument s
      | some c => accepted (s.setWindow w { s.windows[w] with cfg := c })) s

/-! ### ENABLE_WINDOW (R32 to R37) -/

/-- Two ranges of words, each a base and a length, share a word (R34). -/
def overlaps (x y : Nat × Nat) : Bool := decide (max x.1 y.1 < min (x.1 + x.2) (y.1 + y.2))

namespace WinConfig

def faceRange (c : WinConfig) : Nat × Nat := (c.faceBase.toNat, c.words)
def bankRange (c : WinConfig) (k : Bank) : Nat × Nat := ((c.bankBase k).toNat, c.words)

/-- The face and the used bank ranges (R28). -/
def usedRanges (c : WinConfig) : List (Nat × Nat) := c.faceRange :: c.usedBanks.map c.bankRange

/-- A range passes the end of the address space (R33). -/
def passesEnd (r : Nat × Nat) : Bool := decide (Config.addressSpace < r.1 + r.2)

def badSize (c : WinConfig) : Bool :=
  decide (c.size.toNat < 1) || decide (16 < c.size.toNat) || decide (c.count.toNat < 1) || decide (4096 < c.count.toNat)

def badGuard (c : WinConfig) : Bool :=
  decide (c.guardLen.toNat < 1) || decide (c.size.toNat < c.guardLen.toNat)
    || (decide (c.mode = .banked) && decide (c.guardLen ≠ c.size))

def badBankCount (c : WinConfig) : Bool := decide (c.mode = .banked) && decide (c.bankCount ≠ 2) && decide (c.bankCount ≠ 3)

def wrapsRange (c : WinConfig) : Bool := c.usedRanges.any passesEnd

def passesDirectory (c : WinConfig) : Bool := decide (Config.directorySize < c.dirStart.toNat + c.count.toNat)

/-- A zero hold, fill or drain limit where R35 requires one. -/
def lacksLimit (c : WinConfig) : Bool :=
  (decide (c.holdLimit = 0) && !(decide (c.mode = .snap) || (decide (c.mode = .banked) && decide (c.yieldPolicy = .writerFirst))))
    || (decide (c.fillLimit = 0) && decide (c.mode ≠ .banked)) || decide (c.drainLimit = 0)

def badPeriod (c : WinConfig) : Bool := decide (c.freshMode ≠ .off) && decide (c.period = 0)

/-- The directory run as a range of entries. -/
def run (c : WinConfig) : Nat × Nat := (c.dirStart.toNat, c.count.toNat)

end WinConfig

/-- The configured fields of the windows in service (R34). -/
def inService (s : State) : List WinConfig := (tableAll Window.decoded s.windows).map s.cfg

/-- A range shares a word with a decoded range (R34). -/
def meetsDecoded (s : State) (r : Nat × Nat) : Bool := (inService s).any fun c => c.usedRanges.any (overlaps r)

/-- A used bank range meets another one of this window, its face, or a decoded range (R33, order 8). -/
def bankOverlap (s : State) (c : WinConfig) : Bool :=
  c.usedBanks.any fun k =>
    overlaps (c.bankRange k) c.faceRange || meetsDecoded s (c.bankRange k)
      || c.usedBanks.any fun j => decide (j ≠ k) && overlaps (c.bankRange k) (c.bankRange j)

/-- The conditions of Table 2-4 in the order listed, each with its reason (R33). -/
def enableChecks (s : State) (c : WinConfig) : List (Bool × Reason) :=
  [(c.badSize, .badSize), (c.badGuard, .badGuard), (c.badBankCount, .bankCount), (c.wrapsRange, .rangeWrap),
   (c.passesDirectory, .directoryRange),
   ((inService s).any fun x => overlaps c.run x.run, .directoryOverlap),
   (meetsDecoded s c.faceRange, .faceOverlap), (bankOverlap s c, .bankOverlap),
   (c.lacksLimit, .limitRequired), (c.badPeriod, .badPeriod)]

/-- The first condition that holds is the refusal reason (R33). -/
def validate (s : State) (c : WinConfig) : Option Reason := ((enableChecks s c).find? Prod.fst).map Prod.snd

/-- The window can have active bank k: below the bank count in BANKED mode, 0 in the others (R36, R43). -/
def WinConfig.allowsBank (c : WinConfig) (k : Bank) : Bool :=
  if c.mode = .banked then decide (k.val < c.bankCount.toNat) else decide (k = 0)

/-- The one adjustment of an enable without initialize (R36). -/
def adjustBank (c : WinConfig) (i : Nat) (e : DirEntry) : DirEntry :=
  if c.ownsEntry i && !c.allowsBank e.activeBank then { e with activeBank := 0 } else e

/-- The directory after an accepted enable (R36). -/
def enabledDirectory (c : WinConfig) (init : Bool) (d : List (Nat × DirEntry)) : List (Nat × DirEntry) :=
  if init then d.filter fun p => !c.ownsEntry p.1 else dirMap (adjustBank c) d

/-- Steps 4 to 6 of R32: directory, live fields (R25), LIVE, recut (R37). -/
def putInService (w : WindowNo) (init : Bool) (s : State) : State :=
  let c := s.cfg w
  recut s.windows
    { s with
      directory := enabledDirectory c init s.directory
      windows := s.windows.set w ⟨.live, c, c.firstDeadline, c.freshMode⟩ }

def runEnableWindow (args : List Byte) (s : State) : State × Verdict :=
  onWindow args (fun w s =>
    if s.windows[w].decoded then rejected .windowNotOff s
    else
      match validate s (s.cfg w) with
      | some why => rejected why s
      | none => accepted (putInService w (optionSet (byteAt args 1)) s)) s

/-! ### DISABLE_WINDOW (R171) -/

/-- A LIVE window becomes DRAINING: its drain fields become present. The recut that follows changes no class, since a
DRAINING window is still decoded (R171). -/
def beginDrain (w : WindowNo) (s : State) : State :=
  s.setWindow w { s.windows[w] with state := .draining (s.cfg w).drainLimit false }

def runDisableWindow (args : List Byte) (s : State) : State × Verdict :=
  onWindow args (fun w s =>
    let force := optionSet (byteAt args 1)
    match s.windows[w].state with
    | .off => rejected .windowOff s
    | .live => accepted (if force then forceDrain w (beginDrain w s) else drainTest w (beginDrain w s))
    | .draining _ forced => accepted (if force && !forced then forceDrain w s else s)) s

/-! ### READ_RECORD and WRITE_RECORD (R42, R43) -/

/-- Record r is below the stored N, and its entry exists (R42). -/
def WinConfig.hasRecord (c : WinConfig) (r : Nat) : Bool :=
  decide (r < c.count.toNat) && decide (c.dirIndex r < Config.directorySize)

def runReadRecord (args : List Byte) (s : State) : State × Verdict :=
  onWindow args (fun w s =>
    let r := (half args 1).toNat
    if (s.cfg w).hasRecord r then answered (dirEntryBytes (s.dirEntry w r)) s else rejected .badIndex s) s

/-- Entry i lies in the run of a LIVE or DRAINING window (R43, check 4). -/
def entryInService (s : State) (i : Nat) : Bool := (inService s).any fun c => c.ownsEntry i

/-- The entry that WRITE_RECORD's arguments carry, with a given active bank (Table 10-4, R168). -/
def givenEntry (args : List Byte) (k : Bank) : DirEntry :=
  let flags := byteAt args 6
  ⟨k, half args 4, flags.getLsbD 0, flags.getLsbD 1, flags.getLsbD 2, word4 args 7⟩

/-- The active bank that WRITE_RECORD carries, when the window can have it (R43, check 6). -/
def givenBank (c : WinConfig) (args : List Byte) : Option Bank := (bankOf (byteAt args 3)).filter c.allowsBank

def runWriteRecord (args : List Byte) (s : State) : State × Verdict :=
  onWindow args (fun w s =>
    let c := s.cfg w
    let r := (half args 1).toNat
    let flags := byteAt args 6
    if s.windows[w].decoded then rejected .windowNotOff s
    else if !c.hasRecord r then rejected .badIndex s
    else if entryInService s (c.dirIndex r) then rejected .windowNotOff s
    else if flags.getLsbD 0 && flags.getLsbD 1 then rejected .badFlags s
    else
      match givenBank c args with
      | none => rejected .badBank s
      | some k => accepted (s.setDir (c.dirIndex r) (givenEntry args k))) s

/-! ### READ_HOLD and BREAK_HOLDS (R68, R62) -/

def runReadHold (args : List Byte) (s : State) : State × Verdict :=
  match holdOf (byteAt args 0) with
  | none => rejected .badIndex s
  | some i => answered (holdBytes s.holds[i]) s

/-- A master byte: a tag from 0 to 15, or 10h for ALL (R168). -/
inductive MasterChoice where
  | tag (m : Tag)
  | all
  deriving DecidableEq, Repr

def masterOf (b : Byte) : Option MasterChoice :=
  if h : b.toNat < 16 then some (.tag ⟨b.toNat, h⟩) else if b = 0x10 then some .all else none

def MasterChoice.covers (x : MasterChoice) (m : Tag) : Bool :=
  match x with
  | .tag t => decide (m = t)
  | .all => true

/-- The OPEN and COPYING entries that BREAK_HOLDS names (R62). -/
def namedHolds (s : State) (w : WindowNo) (x : MasterChoice) : List HoldNo :=
  (holdsInForce s w).filter fun i => x.covers s.holds[i].master

/-- Entries broken with reason MANAGEMENT, in an order the manual leaves open (R62, log 25); then the completion test of
a window that drains (R66, R173). -/
def breakNamed (w : WindowNo) (is : List HoldNo) (s : State) : State :=
  drainTest w (breakAll .management (freeOrder s.freeCount is) s.drawn)

def runBreakHolds (args : List Byte) (s : State) : State × Verdict :=
  onWindow args (fun w s =>
    match masterOf (byteAt args 1) with
    | none => rejected .badArgument s
    | some x =>
      if s.windows[w].decoded then
        (breakNamed w (namedHolds s w x) s, .accepted [byte (namedHolds s w x).length])
      else rejected .windowOff s) s

/-! ### READ_EVENTS, the counters and event control (R153, R157, R150) -/

/-- The oldest n records removed; a head left in the queue reloads the alert age countdown (R153, R155). -/
def EventUnit.pop (n : Nat) (u : EventUnit) : EventUnit :=
  let rest := u.queue.drop n
  { u with queue := rest, age := if rest.isEmpty then u.age else u.control.latency }

/-- The number of records popped, then the records (R169). -/
def poppedBytes (rs : List EventRecord) : List Byte := byte rs.length :: rs.flatMap eventBytes

def runReadEvents (args : List Byte) (s : State) : State × Verdict :=
  let n := (byteAt args 0).toNat
  if 1 ≤ n ∧ n ≤ 4 then
    (driveAlert { s with events := s.events.pop n }, .accepted (poppedBytes (s.events.queue.take n)))
  else rejected .badArgument s

def runReadCounters (args : List Byte) (s : State) : State × Verdict :=
  onWindow args (fun w s => answered (counterBytes s.counters[w]) s) s

/-- The counters of one window, or of every window for 10h (R157, R169). -/
def runClearCounters (args : List Byte) (s : State) : State × Verdict :=
  if byteAt args 0 = 0x10 then accepted { s with counters := .replicate 16 .zero }
  else onWindow args (fun w s => accepted { s with counters := s.counters.set w .zero }) s

/-- The stored-kinds set of three argument bytes, unless it names LOST or no kind (R150, R169). -/
def storedOf (args : List Byte) : Option (BitVec 18) :=
  let x : BitVec 24 := byteAt args 0 ++ half args 1
  if x.toNat < 2 ^ 18 then some (x.setWidth 18) else none

/-- New event control; the age countdown of a queue that is not empty is reloaded with the new latency (R155). -/
def EventUnit.withControl (c : EventControl) (u : EventUnit) : EventUnit :=
  { u with control := c, age := if u.queue.isEmpty then u.age else c.latency }

def runSetEventControl (args : List Byte) (s : State) : State × Verdict :=
  let threshold := (byteAt args 3).toNat
  match storedOf args with
  | none => rejected .badArgument s
  | some stored =>
    if 1 ≤ threshold ∧ threshold ≤ 64 then
      accepted (driveAlert { s with events := s.events.withControl ⟨stored, threshold, half args 4⟩ })
    else rejected .badArgument s

/-! ### The time base (R137) -/

def runOf (b : Byte) : Option RunState := if b = 0 then some .stopped else if b = 1 then some .running else none

/-- Run state, prescaler, and the value when the load option is set. The interval to the next tick is not modelled (log 6). -/
def runSetTimebase (args : List Byte) (s : State) : State × Verdict :=
  match runOf (byteAt args 0) with
  | none => rejected .badArgument s
  | some run =>
    if (byteAt args 1).toNat ≤ 15 then
      let value := if optionSet (byteAt args 2) then word4 args 3 else s.timeBase.value
      accepted { s with timeBase := ⟨value, (byteAt args 1).setWidth 4, run⟩ }
    else rejected .badArgument s

def timeBaseBytes (t : TimeBase) : List Byte := [byte t.run.code, t.prescaler.setWidth 8] ++ bytes4 t.value

def runReadTimebase (_args : List Byte) (s : State) : State × Verdict := answered (timeBaseBytes s.timeBase) s

/-! ### The commands: code and argument length of Table 10-1, then the run -/

/-- IDENTIFY. -/
def execIdentify (rest : List Byte) (s : State) : Result := commandFrame 0x01 0 runIdentify rest s
/-- STATUS. -/
def execStatus (rest : List Byte) (s : State) : Result := commandFrame 0x02 0 runStatus rest s
/-- READ_WINDOW. -/
def execReadWindow (rest : List Byte) (s : State) : Result := commandFrame 0x10 1 runReadWindow rest s
/-- WRITE_WINDOW. -/
def execWriteWindow (rest : List Byte) (s : State) : Result := commandFrame 0x11 44 runWriteWindow rest s
/-- ENABLE_WINDOW. -/
def execEnableWindow (rest : List Byte) (s : State) : Result := commandFrame 0x12 2 runEnableWindow rest s
/-- DISABLE_WINDOW. -/
def execDisableWindow (rest : List Byte) (s : State) : Result := commandFrame 0x13 2 runDisableWindow rest s
/-- READ_RECORD. -/
def execReadRecord (rest : List Byte) (s : State) : Result := commandFrame 0x18 3 runReadRecord rest s
/-- WRITE_RECORD. -/
def execWriteRecord (rest : List Byte) (s : State) : Result := commandFrame 0x19 11 runWriteRecord rest s
/-- READ_HOLD. -/
def execReadHold (rest : List Byte) (s : State) : Result := commandFrame 0x20 1 runReadHold rest s
/-- BREAK_HOLDS. -/
def execBreakHolds (rest : List Byte) (s : State) : Result := commandFrame 0x21 2 runBreakHolds rest s
/-- READ_EVENTS. -/
def execReadEvents (rest : List Byte) (s : State) : Result := commandFrame 0x28 1 runReadEvents rest s
/-- READ_COUNTERS. -/
def execReadCounters (rest : List Byte) (s : State) : Result := commandFrame 0x30 1 runReadCounters rest s
/-- CLEAR_COUNTERS. -/
def execClearCounters (rest : List Byte) (s : State) : Result := commandFrame 0x31 1 runClearCounters rest s
/-- SET_TIMEBASE. -/
def execSetTimebase (rest : List Byte) (s : State) : Result := commandFrame 0x38 7 runSetTimebase rest s
/-- READ_TIMEBASE. -/
def execReadTimebase (rest : List Byte) (s : State) : Result := commandFrame 0x39 0 runReadTimebase rest s
/-- SET_EVENT_CONTROL. -/
def execSetEventControl (rest : List Byte) (s : State) : Result := commandFrame 0x3A 6 runSetEventControl rest s

end Sys2Proof.Machine
end

