-- ==== Sys2Proof/Machine/Reset.lean ====
section
/-! DEFINITION. Soft reset (R170 and the rules it lists) and pin reset (R20 and the rules of each chapter). -/

namespace Sys2Proof.Machine

/-! ### Soft reset -/

/-- The bank a parked word of a BANKED fill is released to: the fill's target bank, else the lowest-numbered bank other
than the active bank (R90, R122). Other modes have none: the face. -/
def resetBank (s : State) (e : ParkEntry) : Option Bank :=
  if (s.cfg e.window).mode = .banked then
    match e.fill.bind fun ref => s.fills[ref.index].target with
    | some k => some k
    | none => lowestOtherBank s e.window e.record
  else none

/-- A Park Queue entry at soft reset: RELEASED, without a fill; a release address already fixed stays (R107). -/
def ParkEntry.resetRelease (s : State) (e : ParkEntry) : ParkEntry :=
  match e.condition with
  | .released _ => { e with fill := none }
  | .parked =>
    { e with
      fill := none
      condition := .released (recordWord (s.cfg e.window) (resetBank s e) e.record e.offset) }

/-- The records of the listed fills marked DAMAGED, except those of BANKED windows (R44, R90). -/
def damageFills : List FillNo → State → State
  | [], s => s
  | f :: fs, s =>
    let x := s.fills[f]
    let c := s.cfg x.window
    damageFills fs (if c.mode = .banked then s else markDamaged (c.dirIndex x.record) s)

/-- A copy in flight is marked orphaned (R135). -/
def InFlight.orphaned (x : InFlight) : InFlight :=
  match x.origin with
  | .copy k i w r m _ => { x with origin := .copy k i w r m true }
  | .laneRead _ _ _ => x
  | .laneWrite _ _ => x
  | .release _ _ _ _ _ _ => x

/-- A lead read whose copy request is discarded is released from its binding and offered again (R135). -/
def unbind (copies : List CopyRequest) (m : Tag) (l : Lane) : Lane :=
  if copies.any fun k => decide (k.master = m) then
    match l.phase with
    | .bound _ => { l with phase := .toOffer }
    | .idle => l
    | .toOffer => l
    | .candidate => l
    | .stalled _ => l
  else l

/-- The Event Unit at soft reset: the control is kept, and the age countdown stops where it is (R159). -/
def EventUnit.softReset (u : EventUnit) : EventUnit := { u with queue := [], lost := 0, lostStamp := none }

/-- The soft reset, in one event (R170): windows R26, lanes and in-flight list R21, holds R69, fills R90, Park Queue
R107, Snapshot Engine R135, Freshness Unit R148, Event Unit R159. Time base and directory are kept but for the marks. -/
def softReset (s : State) : State :=
  let fs := tableAll (fun x : Fill => decide (x.state ≠ .free)) s.fills
  let s1 := damageFills fs s
  recut s.windows
    { s1 with
      lanes := tableMap (fun m l => unbind s.copies m l) s.lanes
      inFlight := s.inFlight.map InFlight.orphaned
      windows := tableMap (fun _ x => { x with state := .off }) s.windows
      holds := .replicate 32 .cleared
      fills := tableMap (fun _ x => .cleared x.generation) s.fills
      park := s.park.map (ParkEntry.resetRelease s)
      slots := .replicate 8 .free
      copies := []
      pendingSweeps := 0
      sweep := none
      events := s.events.softReset
      counters := .replicate 16 .zero
      alertLow := false }

def runSoftReset (_args : List Byte) (s : State) : State × Verdict := accepted (softReset s)

/-- SOFT_RESET. -/
def execSoftReset (rest : List Byte) (s : State) : Result := commandFrame 0x5A 0 runSoftReset rest s

/-! ### Pin reset -/

/-- Every piece of state at its pin-reset value, RESET_N low (R20, R26, R44, R69, R89, R106, R134, R147, R158). A frame in
progress is discarded; CS_N itself is not the part's to change (R165). The count of free values goes on (log 9). -/
def pinReset (s : State) : State :=
  { State.reset with
    resetLow := true
    link := { State.reset.link with csLow := s.link.csLow }
    freeCount := s.freeCount
    pending := s.pending }

/-- PIN_RESET. -/
def execPinReset (s : State) : Result := .next (pinReset s)

/-- RESET_RELEASE: RESET_N rises; the part serves again (R20, R147, R165). -/
def execResetRelease (s : State) : Result := .next { s with resetLow := false }

end Sys2Proof.Machine
end

