-- ==== Sys2Proof/Machine/Dispatch.lean ====
section
/-! DEFINITION. The effect of each command on everything but the queue: one arm per constructor. -/

namespace Sys2Proof.Machine

def exec (i : Instr) (s : State) : Host.Outcome State Fault Refusal :=
  match i with
  | .requestArrival m addr body => Sys2Proof.Machine.execRequestArrival m addr body s
  | .segmentOffer m => Sys2Proof.Machine.execSegmentOffer m s
  | .laneSegmentGrant => Sys2Proof.Machine.execLaneSegmentGrant s
  | .copyRequestGrant => Sys2Proof.Machine.execCopyRequestGrant s
  | .parkReleaseGrant => Sys2Proof.Machine.execParkReleaseGrant s
  | .segmentResponse resp => Sys2Proof.Machine.execSegmentResponse resp s
  | .copyResponse beats => Sys2Proof.Machine.execCopyResponse beats s
  | .parkReleaseResponse status => Sys2Proof.Machine.execParkReleaseResponse status s
  | .strayResponse resp => Sys2Proof.Machine.execStrayResponse resp s
  | .responseDelivery => Sys2Proof.Machine.execResponseDelivery s
  | .tick => Sys2Proof.Machine.execTick s
  | .holdExpired n => Sys2Proof.Machine.execHoldExpired n s
  | .lingerExpiry n => Sys2Proof.Machine.execLingerExpiry n s
  | .fillExpiry f => Sys2Proof.Machine.execFillExpiry f s
  | .drainCountdownExpiry w => Sys2Proof.Machine.execDrainCountdownExpiry w s
  | .alertAgeExpiry => Sys2Proof.Machine.execAlertAgeExpiry s
  | .sweepStart => Sys2Proof.Machine.execSweepStart s
  | .sweepVisit => Sys2Proof.Machine.execSweepVisit s
  | .drainCompletion w => Sys2Proof.Machine.execDrainCompletion w s
  | .frameStart => Sys2Proof.Machine.execFrameStart s
  | .frameAbort bytes bits => Sys2Proof.Machine.execFrameAbort bytes bits s
  | .unknownCommand code rest => Sys2Proof.Machine.execUnknownCommand code rest s
  | .identify rest => Sys2Proof.Machine.execIdentify rest s
  | .status rest => Sys2Proof.Machine.execStatus rest s
  | .readWindow rest => Sys2Proof.Machine.execReadWindow rest s
  | .writeWindow rest => Sys2Proof.Machine.execWriteWindow rest s
  | .enableWindow rest => Sys2Proof.Machine.execEnableWindow rest s
  | .disableWindow rest => Sys2Proof.Machine.execDisableWindow rest s
  | .readRecord rest => Sys2Proof.Machine.execReadRecord rest s
  | .writeRecord rest => Sys2Proof.Machine.execWriteRecord rest s
  | .readHold rest => Sys2Proof.Machine.execReadHold rest s
  | .breakHolds rest => Sys2Proof.Machine.execBreakHolds rest s
  | .readEvents rest => Sys2Proof.Machine.execReadEvents rest s
  | .readCounters rest => Sys2Proof.Machine.execReadCounters rest s
  | .clearCounters rest => Sys2Proof.Machine.execClearCounters rest s
  | .setTimebase rest => Sys2Proof.Machine.execSetTimebase rest s
  | .readTimebase rest => Sys2Proof.Machine.execReadTimebase rest s
  | .setEventControl rest => Sys2Proof.Machine.execSetEventControl rest s
  | .softReset rest => Sys2Proof.Machine.execSoftReset rest s
  | .fetch rest => Sys2Proof.Machine.execFetch rest s
  | .pinReset => Sys2Proof.Machine.execPinReset s
  | .resetRelease => Sys2Proof.Machine.execResetRelease s

end Sys2Proof.Machine
end

