-- ==== Sys2Proof/Safety.lean ====
section
/-! DEFINITION. What stays true of the machine whatever commands run: the capacities, the canonical directory, and the
exclusions that keep records whole. -/

namespace Sys2Proof.Machine

/-- The capacities of Table 1: lanes of 4 (R1), 8 requests in flight (R16), 64 parked words (R98), 64 events (section 9.3). -/
def WithinCapacity (s : State) : Prop :=
  (∀ m : Tag, s.lanes[m].reqs.length ≤ Config.laneDepth) ∧ s.inFlight.length ≤ Config.maxInFlight
    ∧ s.park.length ≤ Config.parkCapacity ∧ s.events.queue.length ≤ Config.eventCapacity

/-- FRESH and STALE are never both set in one entry (R41). -/
def FlagsApart (s : State) : Prop := ∀ p ∈ s.directory, (p.2.fresh && p.2.stale) = false

/-- The Record Directory's list is canonical, and its flags are apart (R41, log 22). -/
def DirectoryOk (s : State) : Prop := dirWf s.directory ∧ FlagsApart s

/-- No two non-FREE holds have the same master, window and record (R46). -/
def HoldsDistinct (s : State) : Prop :=
  ∀ i j : HoldNo, s.holds[i].state ≠ .free → s.holds[j].state ≠ .free → s.holds[i].master = s.holds[j].master →
    s.holds[i].window = s.holds[j].window → s.holds[i].record = s.holds[j].record → i = j

/-- No two open fills are on one record (R71). -/
def FillsDistinct (s : State) : Prop :=
  ∀ f g : FillNo, s.fills[f].state ≠ .free → s.fills[g].state ≠ .free → s.fills[f].window = s.fills[g].window →
    s.fills[f].record = s.fills[g].record → f = g

/-- The hold and the fill are on one record. -/
def sameRecord (h : Hold) (x : Fill) : Prop := h.window = x.window ∧ h.record = x.record

/-- A record of a window in service (R28). -/
def InService (s : State) (w : WindowNo) (r : Nat) : Prop := s.windows[w].decoded = true ∧ r < (s.cfg w).count.toNat

/-- Readers and producers are kept apart: the facts behind R96 and R112, with those they rest on. -/
structure Coherent (s : State) : Prop where
  /-- The fields of a window in service are within the ranges that validation asks for (R33). -/
  fieldsValid : ∀ w : WindowNo, s.windows[w].decoded = true →
    (s.cfg w).badSize = false ∧ (s.cfg w).badGuard = false ∧ (s.cfg w).badBankCount = false
  /-- R46. -/
  holdsDistinct : HoldsDistinct s
  /-- R71. -/
  fillsDistinct : FillsDistinct s
  /-- Holds in force are of windows in service (R173, R69). -/
  holdInService : ∀ i : HoldNo, s.holds[i].state = .opened ∨ s.holds[i].state = .copying →
    InService s s.holds[i].window s.holds[i].record
  /-- Only SNAP windows copy (R50). -/
  copyingIsSnap : ∀ i : HoldNo, s.holds[i].state = .copying → (s.cfg s.holds[i].window).mode = .snap
  /-- Open fills are of windows in service (R173, R90). -/
  fillInService : ∀ f : FillNo, s.fills[f].state ≠ .free → InService s s.fills[f].window s.fills[f].record
  /-- No directory entry belongs to two windows in service (R34). -/
  runsApart : ∀ v w : WindowNo, s.windows[v].decoded = true → s.windows[w].decoded = true → v ≠ w →
    overlaps (s.cfg v).run (s.cfg w).run = false
  /-- In a SINGLE window an OPEN hold meets a fill of its record only while that fill is WAITING and another master's (R96). -/
  single : ∀ (f : FillNo) (i : HoldNo), s.fills[f].state ≠ .free → (s.cfg s.fills[f].window).mode = .single →
    s.holds[i].state = .opened → sameRecord s.holds[i] s.fills[f] →
    s.fills[f].state = .waiting ∧ s.holds[i].master ≠ s.fills[f].owner
  /-- An ACTIVE fill of a SINGLE or SNAP window writes the face (R91, Table 4-4). -/
  face : ∀ f : FillNo, s.fills[f].state = .active → (s.cfg s.fills[f].window).mode ≠ .banked → s.fills[f].target = none
  /-- In a BANKED window an ACTIVE fill writes a used bank that is neither the active bank nor pinned (R112). -/
  banked : ∀ f : FillNo, s.fills[f].state = .active → (s.cfg s.fills[f].window).mode = .banked →
    ∃ k : Bank, s.fills[f].target = some k ∧ k ∈ (s.cfg s.fills[f].window).usedBanks
      ∧ k ≠ (s.dirEntry s.fills[f].window s.fills[f].record).activeBank
      ∧ ∀ i : HoldNo, s.holds[i].state = .opened → sameRecord s.holds[i] s.fills[f] → s.holds[i].pinnedBank ≠ some k

/-- The Park Queue entries of the fill in entry f. -/
def parkedOf (s : State) (f : FillNo) : List ParkEntry := s.park.filter fun e => decide (e.fill = some (fillRef s f))

/-- The Park Queue's books: an entry that names a fill names an open one, of its own window, record and master, and is
PARKED exactly while that fill is WAITING; an entry without a fill is RELEASED; and the parked count of a fill is the
number of its entries (R76, R99, R101, R107). -/
def ParkAccounted (s : State) : Prop :=
  (∀ e ∈ s.park, ∀ ref : FillRef, e.fill = some ref → refersTo ref s = true
      ∧ e.window = s.fills[ref.index].window ∧ e.record = s.fills[ref.index].record
      ∧ e.master = s.fills[ref.index].owner ∧ (e.condition = .parked ↔ s.fills[ref.index].state = .waiting))
    ∧ (∀ e ∈ s.park, e.fill = none → e.condition ≠ .parked)
    ∧ ∀ f : FillNo, s.fills[f].state ≠ .free → s.fills[f].parked = (parkedOf s f).length

/-- Words left by a soft reset reach memory before any hold opens on a record that a lane grant opens (R107, R21). -/
def LeftoversFirst (s : State) : Prop :=
  (∃ e ∈ s.park, e.fill = none) → ∀ i : HoldNo, s.holds[i].state = .opened → (s.cfg s.holds[i].window).mode = .snap

/-- FREE entries stand in their cleared form (R45, R70). -/
def TablesTidy (s : State) : Prop :=
  (∀ i : HoldNo, s.holds[i].state = .free → s.holds[i] = .cleared)
    ∧ ∀ f : FillNo, s.fills[f].state = .free → s.fills[f] = .cleared s.fills[f].generation

/-- The alert threshold is within the values that SET_EVENT_CONTROL accepts (R150). -/
def ControlOk (s : State) : Prop := 1 ≤ s.events.control.threshold ∧ s.events.control.threshold ≤ 64

/-- ALERT_N stands as its conditions say (R154). -/
def AlertFollows (s : State) : Prop := s.alertLow = s.events.alertCondition

/-- An in-flight entry is, by its origin (R17), a write of a fill of record r of window w, or a released parked word of it. -/
def InFlight.writesRecord (w : WindowNo) (r : Nat) (x : InFlight) : Bool :=
  match x.origin with
  | .laneRead _ _ _ => false
  | .laneWrite _ guard => guard.any fun o => decide (o.window = w) && decide (o.record = r)
  | .copy _ _ _ _ _ _ => false
  | .release _ v q _ _ _ => decide (v = w) && decide (q = r)

end Sys2Proof.Machine
end

