-- ==== Sys2Proof/Certificates/Slice0/Obligations.lean ====
section
/-! DEFINITION. The statements for the provers. A statement of a command's effect has as its conclusion the next state
that `exec` answers: either the whole of it, or what it holds together with a record equation that names every field it may
differ in. -/

open Sys2Proof Sys2Proof.Machine

/-! ### Words the statements share -/

namespace Sys2Proof.Statements

/-- The segment at the head of lane m is due to be offered (R5). -/
def Offered (s : State) (m : Tag) (q : Request) (g : Segment) : Prop :=
  s.lanes[m].phase = .toOffer ∧ headSegment s m = some (q, g)

/-- Nothing is due, and the Issue Arbiter's choice is the segment at the head of lane m (R19). -/
def Granted (s : State) (m : Tag) (q : Request) (g : Segment) : Prop :=
  s.Settled ∧ laneTurn s = true ∧ nextLane s = some m ∧ headSegment s m = some (q, g)

/-- The segment passes unchanged: OUTSIDE, plain face, or an OPEN bank range (R10, R11, R12). -/
def Passes (s : State) (g : Segment) : Prop :=
  g.cls = .outside ∨ (∃ w r, g.cls = .facePlain w r) ∨ ∃ w k, g.cls = .bankRange w k ∧ (s.cfg w).bankGuard = .openGuard

/-- The segment is a read of the guard words `sp` (R11). -/
def ReadsGuard (s : State) (q : Request) (g : Segment) (sp : GuardSpan) : Prop :=
  (∃ n, q.body = .read n) ∧ g.cls = .faceGuard sp.window sp.record ∧ sp = segmentSpan s q g

/-- The segment is a write of the words `xs` to the guard words `sp` (R11). -/
def WritesGuard (s : State) (q : Request) (g : Segment) (sp : GuardSpan) (xs : List WriteWord) : Prop :=
  (∃ ws, q.body = .write ws) ∧ g.cls = .faceGuard sp.window sp.record ∧ sp = segmentSpan s q g ∧ xs = requestWords q g

/-- Master m owns no open fill of the record (R47, case 1). -/
def OwnsNoFill (s : State) (m : Tag) (w : WindowNo) (r : Nat) : Prop :=
  ∀ f, openFill s w r = some f → s.fills[f].owner ≠ m

/-- In t the Event Unit and ALERT_N stand as a report leaves those of s (R149 to R155). -/
def Reported (r : Report) (s t : State) : Prop := t.events = (report r s).events ∧ t.alertLow = (report r s).alertLow

/-- In t the Event Unit and ALERT_N stand as reports, one after another, leave those of s (R153). -/
def ReportedAll (rs : List Report) (s t : State) : Prop :=
  t.events = (rs.foldl (fun u r => report r u) s).events ∧ t.alertLow = (rs.foldl (fun u r => report r u) s).alertLow

/-- The offer refuses the segment with FAULT words and one report, and changes nothing else. -/
def OfferRefused (s : State) (m : Tag) (g : Segment) (r : Report) : Prop :=
  ∃ t, exec (.segmentOffer m) s = .next t
    ∧ t.lanes = (takeWords m (List.replicate g.length (.done ⟨0, .fault, .plain⟩)) s).lanes
    ∧ Reported r s t
    ∧ t = { s with lanes := t.lanes, responseGrant := t.responseGrant, events := t.events, alertLow := t.alertLow }

/-- The stale-read policy lets an opening of the record pass (R145). -/
def StaleAllows (s : State) (w : WindowNo) (r : Nat) : Prop :=
  (s.dirEntry w r).stale = false ∨ (s.cfg w).stalePolicy = .pass

/-- The counters of window w after k increments of one of them (R156); the other windows' as they were. -/
def counted (n : CounterName) (w : WindowNo) (s : State) : Vector Counters 16 :=
  s.counters.set w (s.counters[w].bump n)

/-- A frame is being received (R160). -/
def FrameOpen (s : State) : Prop := s.link.csLow = true ∧ s.link.receiver = .receiving

/-- The bytes after byte 0 of a whole frame with a right check byte (R161, R162). -/
def frameOf (code : Byte) (args : List Byte) : List Byte := args ++ [checkByte (code :: args)]

/-- The link after a frame with n bytes after byte 0 has ended and r is stored (R160, R163). -/
def linkAfter (n : Nat) (r : Response) : Link := ⟨false, .idle, some r, List.replicate (n + 1) 0⟩

/-- What ACCEPTED with data, and REJECTED with a reason, store (R163). -/
def acceptedResponse (code : Byte) (data : List Byte) : Response := ⟨.accepted, code, data⟩
def rejectedResponse (code : Byte) (why : Reason) : Response := ⟨.rejected, code, [why.code]⟩

/-- A whole frame with argument bytes `args` arrives at a settled part (log 3). -/
def FrameArrives (s : State) : Prop := s.Settled ∧ FrameOpen s

/-- The rows of Table 10-1 but FETCH: code, argument length, command. -/
def linkCommands : List (Byte × Nat × (List Byte → Instr)) :=
  [(0x01, 0, .identify), (0x02, 0, .status), (0x10, 1, .readWindow), (0x11, 44, .writeWindow), (0x12, 2, .enableWindow),
   (0x13, 2, .disableWindow), (0x18, 3, .readRecord), (0x19, 11, .writeRecord), (0x20, 1, .readHold),
   (0x21, 2, .breakHolds), (0x28, 1, .readEvents), (0x30, 1, .readCounters), (0x31, 1, .clearCounters),
   (0x38, 7, .setTimebase), (0x39, 0, .readTimebase), (0x3A, 6, .setEventControl), (0x5A, 0, .softReset)]

/-- A window in service that does not drain. -/
def Live (s : State) (w : WindowNo) : Prop := s.windows[w].state = .live

/-! ### Holds and fills that meet on a record -/

/-- Entry i is an OPEN hold on the record. -/
def OpenOn (s : State) (w : WindowNo) (r : Nat) (i : HoldNo) : Prop :=
  s.holds[i].state = .opened ∧ s.holds[i].window = w ∧ s.holds[i].record = r

/-- The bank of a read without a pin: the active bank in BANKED windows; in the others none, the face (R109, R111). -/
def plainBank (s : State) (w : WindowNo) (r : Nat) : Option Bank :=
  if (s.cfg w).mode = .banked then some (s.dirEntry w r).activeBank else none

/-- A BROKEN entry whose copy data is not outstanding (R63). -/
def SettledBroken (s : State) (i : HoldNo) : Prop := s.holds[i].state = .broken ∧ s.holds[i].slot = none

/-- The entry of an opening: replacement, else the lowest FREE one, else of the BROKEN ones the lowest-numbered with the
least linger (R51). -/
def Chosen (s : State) (m : Tag) (w : WindowNo) (r : Nat) (i : HoldNo) : Prop :=
  (findHold s m w r = some i ∧ SettledBroken s i)
    ∨ (findHold s m w r = none ∧ s.holds[i].state = .free ∧ ∀ j : HoldNo, s.holds[j].state = .free → i ≤ j)
    ∨ (findHold s m w r = none ∧ (∀ j : HoldNo, s.holds[j].state ≠ .free) ∧ SettledBroken s i
      ∧ ∀ j : HoldNo, SettledBroken s j → s.holds[i].countdown < s.holds[j].countdown
        ∨ (s.holds[i].countdown = s.holds[j].countdown ∧ i ≤ j))

/-- The read is an opening candidate that neither an open fill nor the stale-read policy holds back (R47, case 3). -/
def MayOpen (s : State) (m : Tag) (sp : GuardSpan) : Prop :=
  sp.offset = 0 ∧ OwnsNoFill s m sp.window sp.record
    ∧ ((s.cfg sp.window).mode ≠ .banked → openFill s sp.window sp.record = none)
    ∧ (∀ i, findHold s m sp.window sp.record = some i → s.holds[i].state = .broken) ∧ StaleAllows s sp.window sp.record

/-- The Hold Table after master m has given up its entry for the record: an OPEN one, or a BROKEN one whose copy data is
not outstanding, is FREE (R55, R58). -/
def givenUp (s : State) (m : Tag) (w : WindowNo) (r : Nat) : Vector Hold 32 :=
  match findHold s m w r with
  | some i =>
    if s.holds[i].state = .opened ∨ (s.holds[i].state = .broken ∧ s.holds[i].slot = none) then s.holds.set i .cleared
    else s.holds
  | none => s.holds

/-- Bank k of the record is SPARE: used, not active, and no OPEN hold's pin (R108, R112). -/
def Spare (s : State) (w : WindowNo) (r : Nat) (k : Bank) : Prop :=
  k ∈ (s.cfg w).usedBanks ∧ k ≠ (s.dirEntry w r).activeBank ∧ ∀ i : HoldNo, OpenOn s w r i → s.holds[i].pinnedBank ≠ some k

/-- A fill of master m on the record may be ACTIVE against the holds of s, with this target bank: in SINGLE when no other
master's hold is OPEN, in BANKED in the lowest SPARE bank, in SNAP always (Table 4-3, R94, R112, R114). -/
def MayBeActive (s : State) (w : WindowNo) (r : Nat) (m : Tag) (target : Option Bank) : Prop :=
  match (s.cfg w).mode with
  | .single => target = none ∧ ∀ i : HoldNo, OpenOn s w r i → s.holds[i].master = m
  | .banked => ∃ k, target = some k ∧ Spare s w r k ∧ ∀ j, Spare s w r j → k ≤ j
  | .snap => target = none

/-- The lowest-numbered used bank other than the active bank (R115, R122). -/
def otherBank (s : State) (w : WindowNo) (r : Nat) : Option Bank :=
  (s.cfg w).usedBanks.find? fun k => decide (k ≠ (s.dirEntry w r).activeBank)

/-- A fill of master m opens ACTIVE with this target bank against the holds of s: at once, or, under WRITER_FIRST, after
the holds in its way have yielded (Table 4-3, R95, R115). -/
def OpensActive (s : State) (w : WindowNo) (r : Nat) (m : Tag) (target : Option Bank) : Prop :=
  MayBeActive s w r m target
    ∨ ((∀ k, ¬ MayBeActive s w r m k) ∧ (s.cfg w).yieldPolicy = .writerFirst
      ∧ (((s.cfg w).mode = .single ∧ target = none)
        ∨ ((s.cfg w).mode = .banked ∧ target ≠ none ∧ target = otherBank s w r)))

/-- The holds that yield to a fill of master m that opens ACTIVE: in SINGLE the OPEN holds of other masters, in BANKED
those pinned to its target bank (R95, R115). There are none where the fill may be ACTIVE at once. -/
def yielding (s : State) (w : WindowNo) (r : Nat) (m : Tag) (target : Option Bank) : List HoldNo :=
  (List.finRange 32).filter fun i => s.holds[i].isOpenOn w r &&
    (match (s.cfg w).mode with
    | .single => decide (s.holds[i].master ≠ m)
    | .banked => decide (s.holds[i].pinnedBank = target)
    | .snap => false)

/-- An OPEN hold after it has been broken: pin and slot absent, its linger loaded (R59). -/
def brokenHold (s : State) (reason : BreakReason) (h : Hold) : Hold :=
  { h with
    state := .broken, pinnedBank := none, slot := none, countdown := (s.cfg h.window).linger, reason := some reason }

/-- No copy request of a SNAP record waits for its issue under a COPYING hold (R127). -/
def NoUnissuedCopy (s : State) (w : WindowNo) (r : Nat) : Prop :=
  (s.cfg w).mode = .snap → ∀ k ∈ s.copies, k.window = w → k.record = r → s.holds[k.hold].state ≠ .copying

/-- A fill that has just opened (R74). -/
def openedFill (s : State) (m : Tag) (w : WindowNo) (r : Nat) (f : FillNo) (coverage : BitVec 16) : Fill :=
  { state := .waiting, owner := m, window := w, record := r, generation := s.fills[f].generation + 1, target := none,
    coverage := coverage, parked := 0, countdown := 0, writeFaulted := false, abandoned := false }

/-- A fill that becomes ACTIVE: its target bank recorded, its countdown loaded (R79). -/
def activeFill (s : State) (target : Option Bank) (x : Fill) : Fill :=
  { x with state := .active, target := target, countdown := (s.cfg x.window).fillLimit }

/-- A Park Queue entry as the fill `ref` becomes ACTIVE: a PARKED entry of it is RELEASED, at its word's address in the
target bank or the face (R101, R102). -/
def releasedBy (s : State) (ref : FillRef) (target : Option Bank) (e : ParkEntry) : ParkEntry :=
  if e.fill = some ref ∧ e.condition = .parked then
    { e with condition := .released (recordWord (s.cfg s.fills[ref.index].window) target e.record e.offset) }
  else e

/-- In s an entry of the record has left OPEN; t has the fills and the Park Queue that follow. A WAITING fill of the record
that nothing holds back any more is ACTIVE and its words are RELEASED; otherwise both stand (R66, R79, R94, R114). -/
def FillTested (s : State) (w : WindowNo) (r : Nat) (t : State) : Prop :=
  (∀ f target, openFill s w r = some f → s.fills[f].state = .waiting → MayBeActive s w r s.fills[f].owner target →
      t.fills = s.fills.set f (activeFill s target s.fills[f])
        ∧ t.park = s.park.map (releasedBy s ⟨f, s.fills[f].generation⟩ target))
    ∧ ((∀ f, openFill s w r = some f → s.fills[f].state = .waiting →
        ∀ target, ¬ MayBeActive s w r s.fills[f].owner target) → t.fills = s.fills ∧ t.park = s.park)

/-- Each hold that is OPEN in s and not in t has left its slot FREE; the other slots are as they were (R132). -/
def SlotsFollow (s t : State) : Prop :=
  let leaves := fun (i : HoldNo) (k : SlotNo) =>
    s.holds[i].state = .opened ∧ t.holds[i].state ≠ .opened ∧ s.holds[i].slot = some k
  ∀ k : SlotNo, ((∃ i, leaves i k) → t.slots[k] = .free) ∧ ((∀ i, ¬ leaves i k) → t.slots[k] = s.slots[k])

/-- Byte k of a word. -/
def byteOf (k : Fin 4) (d : Word) : Byte := d.extractLsb' (8 * k.val) 8

/-- Lanes from the one after the last one granted to m, in the order of the round robin (R19). -/
def turn (s : State) (m : Tag) : Nat := (m - (s.lastIssueLane + 1)).val

/-! ### Validation -/

/-- Word a lies in a range of N × S words from a base (R29, R30). -/
def InRangeOf (c : WinConfig) (base : WordAddr) (a : Nat) : Prop :=
  base.toNat ≤ a ∧ a < base.toNat + c.count.toNat * c.size.toNat

/-- Bank k is used: the mode is BANKED, and k is below the bank count (R23). -/
def UsesBank (c : WinConfig) (k : Bank) : Prop := c.mode = .banked ∧ k.val < c.bankCount.toNat

/-- Word a lies in the face or a used bank range (R28). -/
def Claims (c : WinConfig) (a : Nat) : Prop :=
  InRangeOf c c.faceBase a ∨ ∃ k, UsesBank c k ∧ InRangeOf c (c.bankBase k) a

/-- Entry i lies in the directory run (R29). -/
def RunHas (c : WinConfig) (i : Nat) : Prop := c.dirStart.toNat ≤ i ∧ i < c.dirStart.toNat + c.count.toNat

/-- Table 2-4 in the order listed: each reason with the condition it is given for (R33, R34). -/
def table24 (s : State) (c : WinConfig) : List (Reason × Prop) :=
  [(.badSize, c.size.toNat = 0 ∨ 16 < c.size.toNat ∨ c.count.toNat = 0 ∨ 4096 < c.count.toNat),
   (.badGuard, c.guardLen.toNat = 0 ∨ c.size.toNat < c.guardLen.toNat ∨ (c.mode = .banked ∧ c.guardLen ≠ c.size)),
   (.bankCount, c.mode = .banked ∧ c.bankCount ≠ 2 ∧ c.bankCount ≠ 3),
   (.rangeWrap, 2 ^ 30 < c.faceBase.toNat + c.count.toNat * c.size.toNat
      ∨ ∃ k, UsesBank c k ∧ 2 ^ 30 < (c.bankBase k).toNat + c.count.toNat * c.size.toNat),
   (.directoryRange, 4096 < c.dirStart.toNat + c.count.toNat),
   (.directoryOverlap, ∃ v : WindowNo, s.windows[v].state ≠ .off ∧ ∃ i, RunHas c i ∧ RunHas (s.cfg v) i),
   (.faceOverlap, ∃ v : WindowNo, s.windows[v].state ≠ .off ∧ ∃ a, InRangeOf c c.faceBase a ∧ Claims (s.cfg v) a),
   (.bankOverlap, ∃ k a, UsesBank c k ∧ InRangeOf c (c.bankBase k) a ∧ (InRangeOf c c.faceBase a
      ∨ (∃ j, j ≠ k ∧ UsesBank c j ∧ InRangeOf c (c.bankBase j) a)
      ∨ ∃ v : WindowNo, s.windows[v].state ≠ .off ∧ Claims (s.cfg v) a)),
   (.limitRequired, (c.holdLimit = 0 ∧ c.mode ≠ .snap ∧ ¬ (c.mode = .banked ∧ c.yieldPolicy = .writerFirst))
      ∨ (c.fillLimit = 0 ∧ c.mode ≠ .banked) ∨ c.drainLimit = 0),
   (.badPeriod, c.freshMode ≠ .off ∧ c.period = 0)]

end Sys2Proof.Statements

open Sys2Proof.Statements

/-! ### The queue, reset -/

/-- Tier 1, derived. A step runs the command at the front of the queue on the queue's rest, and on an empty queue the block
idles. The queue is the model's form of the order in which events reach the part (DESIGN CHOICE, log 1). -/
def Obligations.StepRunsFrontCommand : Prop :=
  ∀ (c : Instr) (cs : List Instr) (s : State),
    step { s with pending := c :: cs } = exec c { s with pending := cs }
      ∧ step { s with pending := [] } = .next { s with pending := [] }

/-- Tier 1, derived. The values the manual gives for pin reset, in the state after reset (R20, R26, R44, R69, R89, R106,
R134, R147, R158, R165). The manual has no queue of commands: that it is empty is the model's own value (DESIGN CHOICE,
log 14). -/
def Obligations.ResetValues : Prop :=
  let s := State.reset
  (∀ m : Tag, s.lanes[m].reqs = []) ∧ s.inFlight = [] ∧ s.lastIssueLane = 15 ∧ s.lastResponseLane = 15
    ∧ (∀ w : WindowNo, s.windows[w] = ⟨.off, .zero, 0, .off⟩) ∧ (∀ i, dirGet s.directory i = ⟨0, 0, false, false, false, 0⟩)
    ∧ (∀ i : HoldNo, s.holds[i] = .cleared) ∧ (∀ f : FillNo, s.fills[f] = .cleared 0) ∧ s.park = []
    ∧ (∀ k : SlotNo, s.slots[k] = .free) ∧ s.copies = [] ∧ s.timeBase = ⟨0, 8, .running⟩ ∧ s.pendingSweeps = 0
    ∧ s.sweep = none ∧ s.events.queue = [] ∧ s.events.lost = 0 ∧ s.events.lostStamp = none
    ∧ (∀ k : EventKind, s.events.control.stores k = decide (k ≠ .fillPublished ∧ k ≠ .lost))
    ∧ s.events.control.threshold = 1 ∧ s.events.control.latency = 0 ∧ s.events.age = 0
    ∧ (∀ w : WindowNo, s.counters[w] = ⟨0, 0, 0, 0, 0, 0⟩) ∧ s.alertLow = false ∧ s.link.receiver = .idle
    ∧ s.link.holder = none ∧ s.pending = []

/-- Tier 1, derived. PIN_RESET in any state leaves every field at its reset value, with RESET_N low; CS_N's level, the
count of free values and the queue are the model's to keep (log 9, 11). RESET_RELEASE changes RESET_N alone. While RESET_N
is low no request is accepted, no tick comes, and a frame whose CS_N falls is not received (R20, R147, R165; log 28). -/
def Obligations.PinResetClearsEverything : Prop :=
  ∀ (s : State) (m : Tag) (addr : WordAddr) (body : Body),
    exec .pinReset s = .next { State.reset with
        resetLow := true, link := ⟨s.link.csLow, .idle, none, []⟩, freeCount := s.freeCount, pending := s.pending }
      ∧ exec .resetRelease s = .next { s with resetLow := false }
      ∧ (s.resetLow = true → exec .tick s = .next s
        ∧ (burstOk body.length = true → exec (.requestArrival m addr body) s = .next s)
        ∧ (s.link.csLow = false →
          exec .frameStart s = .next { s with link := { s.link with csLow := true, receiver := .idle } }))

/-! ### Arrival (R1, R4) -/

/-- Tier 2, derived. A lane that holds 4 requests accepts none; one with fewer takes the request at its tail, and a lane
that had no head offers its first segment next (R1, R5). A request whose last word would lie beyond FFFFFFFCh is refused
whole when it reaches the head, here at its arrival in a lane without a head: each word FAULT with data 0 and PLAIN, nothing
issued, no event, nothing else changed (R4). -/
def Obligations.ArrivalJoinsLane : Prop :=
  ∀ (s : State) (m : Tag) (addr : WordAddr) (body : Body), s.Settled → s.resetLow = false → burstOk body.length = true →
    let frame := exec (.requestArrival m addr body) s
    let joins := fun (words : List WordState) (phase : HeadPhase) => ∃ t, frame = .next t
      ∧ t.lanes[m].reqs = s.lanes[m].reqs ++ [⟨s.lanes[m].nextPlace, addr, body, words⟩] ∧ t.lanes[m].phase = phase
      ∧ (∀ n : Tag, n ≠ m → t.lanes[n] = s.lanes[n])
      ∧ t = { s with lanes := t.lanes, responseGrant := t.responseGrant }
    (4 ≤ s.lanes[m].reqs.length → frame = .next s)
      ∧ (s.lanes[m].reqs.length < 4 → s.lanes[m].head ≠ none →
        joins (List.replicate body.length .untaken) s.lanes[m].phase)
      ∧ (s.lanes[m].reqs.length < 4 → s.lanes[m].head = none → addr.toNat + body.length ≤ 2 ^ 30 →
        joins (List.replicate body.length .untaken) .toOffer)
      ∧ (s.lanes[m].reqs.length < 4 → s.lanes[m].head = none → 2 ^ 30 < addr.toNat + body.length →
        joins (List.replicate body.length (.done ⟨0, .fault, .plain⟩)) .idle)

/-- Tier 2, derived. What taking the next words of a lane's head does (R5): they stand at their own positions, no other
request or lane changes, and the lane offers its next segment, of this request or of the next one, or is without a head.
The statements below say their lanes by `takeWords`. -/
def Obligations.TakenWordsStand : Prop :=
  ∀ (s : State) (m : Tag) (pre post : List Request) (q : Request) (fates : List WordState),
    s.lanes[m].reqs = pre ++ q :: post → (∀ p ∈ pre, p.allTaken = true) → q.allTaken = false → q.wraps = false →
    q.takenCount + fates.length ≤ q.words.length →
    let t := takeWords m fates s
    let q' : Request := { q with
      words := q.words.take q.takenCount ++ fates ++ q.words.drop (q.takenCount + fates.length) }
    (∀ n : Tag, n ≠ m → t.lanes[n] = s.lanes[n])
      ∧ t = { s with lanes := t.lanes, responseGrant := t.responseGrant }
      ∧ (q'.allTaken = false → t.lanes[m].reqs = pre ++ q' :: post ∧ t.lanes[m].phase = .toOffer)
      ∧ (q'.allTaken = true → post = [] → t.lanes[m].reqs = pre ++ [q'] ∧ t.lanes[m].phase = .idle)
      ∧ (∀ r rs, q'.allTaken = true → post = r :: rs → r.allTaken = false → r.wraps = false →
          t.lanes[m].reqs = pre ++ q' :: post ∧ t.lanes[m].phase = .toOffer)

/-! ### Offers (R13, R14) -/

/-- Tier 2, derived. SEGMENT_OFFER refuses, each word FAULT, with one event: a write of another master than the
window's producer, before any other decision (R31); a write that meets another master's open fill (R73); a segment in a
PROTECTED bank range, naming the record of its first word (R12); and, under policy FAULT, a read of the lead word of a stale
record that nothing stalls (R145). No hold, fill, directory entry, counter, parked word, slot or downstream request
changes. -/
def Obligations.OfferRefusals : Prop :=
  ∀ (s : State) (m : Tag) (q : Request) (g : Segment) (sp : GuardSpan) (xs : List WriteWord), Offered s m q g →
    (∀ p, WritesGuard s q g sp xs → (s.cfg sp.window).producer = .master p → p ≠ m →
        OfferRefused s m g (.of .foreignWrite sp.window sp.record m))
      ∧ (∀ f, WritesGuard s q g sp xs → mayProduce (s.cfg sp.window).producer m = true →
        openFill s sp.window sp.record = some f → s.fills[f].owner ≠ m →
        OfferRefused s m g (.of .fillConflict sp.window sp.record m))
      ∧ (∀ w k, g.cls = .bankRange w k → (s.cfg w).bankGuard = .protectedGuard →
        OfferRefused s m g
          (.of .bankAccess w ((segmentAddr q g - ((s.cfg w).bankBase k).toNat) / (s.cfg w).size.toNat) m))
      ∧ (ReadsGuard s q g sp → sp.offset = 0 → Live s sp.window → openFill s sp.window sp.record = none →
        (∀ i, findHold s m sp.window sp.record = some i → s.holds[i].state = .broken) →
        (s.dirEntry sp.window sp.record).stale = true → (s.cfg sp.window).stalePolicy = .fault →
        OfferRefused s m g (.of .staleRead sp.window sp.record m))

/-- Tier 2, derived. In a SINGLE or SNAP window a read of the lead word stalls behind an open fill of another master, both
when it is offered and when it is granted; the stall changes the lane's phase alone (R92, R125), where no other lane is a
candidate: with one, the arbiter goes on to it (`GrantJudgesAgain`). Two things here are deduced, not stated: that in a
DRAINING window too the stall is the one behind the fill (DEDUCED, log 24), and that the lane is not judged again in the same
event (DEDUCED, log 20). -/
def Obligations.LeadReadStallsBehindFill : Prop :=
  ∀ (s : State) (m : Tag) (q : Request) (g : Segment) (sp : GuardSpan) (f : FillNo), ReadsGuard s q g sp → sp.offset = 0 →
    (s.cfg sp.window).mode ≠ .banked → openFill s sp.window sp.record = some f → s.fills[f].owner ≠ m →
    (∀ i, findHold s m sp.window sp.record = some i → s.holds[i].state = .broken) →
    let stalled := { s with
      lanes := s.lanes.set m { s.lanes[m] with phase := .stalled (.behindFill sp.window sp.record) } }
    (Offered s m q g → exec (.segmentOffer m) s = .next stalled)
      ∧ (Granted s m q g → (∀ n : Tag, n ≠ m → s.lanes[n].phase ≠ .candidate) →
        exec .laneSegmentGrant s = .next stalled)

/-- Tier 2, derived. A SNAP opening takes effect when it is offered: the lowest FREE entry becomes COPYING with the
directory's version and DAMAGED flag, the lowest FREE slot AWAITING, a copy request of the record's G words is created, the
lead read is bound to it, and holds-opened is incremented; nothing else changes (R50, R53, R124, R125). -/
def Obligations.SnapOpeningBinds : Prop :=
  ∀ (s : State) (m : Tag) (q : Request) (g : Segment) (sp : GuardSpan) (i : HoldNo) (k : SlotNo), Offered s m q g →
    ReadsGuard s q g sp → sp.offset = 0 → (s.cfg sp.window).mode = .snap → Live s sp.window →
    sp.length < (s.cfg sp.window).guardLen.toNat → openFill s sp.window sp.record = none →
    findHold s m sp.window sp.record = none → StaleAllows s sp.window sp.record →
    tableFind (fun h : Hold => decide (h.state = .free)) s.holds = some i → freeSlot s = some k →
    exec (.segmentOffer m) s = .next { s with
      holds := s.holds.set i
        { state := .copying, master := m, window := sp.window, record := sp.record,
          versionSeen := (s.dirEntry sp.window sp.record).version,
          damagedAtOpen := (s.dirEntry sp.window sp.record).damaged, pinnedBank := none, slot := some k, coverage := 0,
          countdown := (s.cfg sp.window).holdLimit, reason := none, leftService := false }
      slots := s.slots.set k (.awaiting i (s.cfg sp.window).guardLen.toNat)
      copies := s.copies ++ [⟨k, i, sp.window, sp.record, m, (s.cfg sp.window).faceWord sp.record 0,
        (s.cfg sp.window).guardLen.toNat⟩]
      lanes := s.lanes.set m { s.lanes[m] with phase := .bound sp.length }
      counters := counted .holdsOpened sp.window s }

/-- Tier 2, derived. A read of guard words by the master whose SNAP hold is OPEN is answered from the hold's slot when it
is offered, without a downstream request: OKAY beats with HELD, or TORN when damaged-at-open is set (R131, R48). A read
that leaves words uncovered adds its words to the coverage; one that covers the last frees entry and slot, and a WAITING fill
of the record is tested then (R56, R57, R66). -/
def Obligations.SlotServesContinuation : Prop :=
  ∀ (s : State) (m : Tag) (q : Request) (g : Segment) (sp : GuardSpan) (i : HoldNo) (k : SlotNo) (n : Nat) (ws : List Word),
    Offered s m q g → ReadsGuard s q g sp → (s.cfg sp.window).mode = .snap → Live s sp.window →
    OwnsNoFill s m sp.window sp.record → findHold s m sp.window sp.record = some i → s.holds[i].state = .opened →
    s.holds[i].slot = some k → s.slots[k] = .loaded i n ws →
    ∃ t, exec (.segmentOffer m) s = .next t
      ∧ (covers (s.cfg sp.window).guardLen.toNat (s.holds[i].coverage ||| offsetSet sp.offset sp.length) = false →
          t.lanes = (takeWords m ((List.range sp.length).map fun j =>
              .done ⟨ws.getD (sp.offset + j) 0, .okay, heldOrTorn s.holds[i].damagedAtOpen⟩) s).lanes
            ∧ t.holds = s.holds.set i { s.holds[i] with coverage := s.holds[i].coverage ||| offsetSet sp.offset sp.length }
            ∧ t = { s with lanes := t.lanes, responseGrant := t.responseGrant, holds := t.holds })
      ∧ (covers (s.cfg sp.window).guardLen.toNat (s.holds[i].coverage ||| offsetSet sp.offset sp.length) = true →
          t.holds = s.holds.set i .cleared ∧ t.slots = s.slots.set k .free
            ∧ (∀ n : Tag, t.lanes[n].reqs = (takeWords m ((List.range sp.length).map fun j =>
                .done ⟨ws.getD (sp.offset + j) 0, .okay, heldOrTorn s.holds[i].damagedAtOpen⟩) s).lanes[n].reqs)
            ∧ FillTested { s with holds := t.holds } sp.window sp.record t
            ∧ t = { s with
                lanes := t.lanes, responseGrant := t.responseGrant, holds := t.holds, slots := t.slots,
                fills := t.fills, park := t.park })

/-- Tier 2, derived. A write of a WAITING fill's owner is parked when the queue has room for all its words: one entry a
word at the tail, PARKED, in address order; parked count, coverage and writes-parked follow; the words are answered OKAY;
nothing is issued (R76, R77, R99). So is one that opens a fill decided WAITING, under READERS_FIRST with a hold in its way: in
the same event the master's own entry for the record is given up and the lowest FREE fill entry is allocated, WAITING, with
the next generation, no target bank and countdown 0 (R74, R94, R99, R113). With too little room either stalls untaken:
fill, queue and holds are unchanged, nothing is allocated, and PARK_FULL is reported at the first such decision of the
episode only (R100). -/
def Obligations.WaitingWriteParksOrStalls : Prop :=
  ∀ (s : State) (m : Tag) (q : Request) (g : Segment) (sp : GuardSpan) (xs : List WriteWord) (f : FillNo),
    Offered s m q g → WritesGuard s q g sp xs → mayProduce (s.cfg sp.window).producer m = true →
    let c := s.cfg sp.window
    let lanes := s.lanes.set m
      { s.lanes[m] with phase := .stalled (.parkRoom sp.window sp.record), parkFullNoted := true }
    let stalls := exec (.segmentOffer m) s = .next
      (if s.lanes[m].parkFullNoted then { s with lanes := lanes }
       else report (.of .parkFull sp.window sp.record m) { s with lanes := lanes })
    let u := { s with holds := givenUp s m sp.window sp.record }
    (openFill s sp.window sp.record = some f → s.fills[f].owner = m → s.fills[f].state = .waiting →
        s.fills[f].abandoned = false → covers c.guardLen.toNat s.fills[f].coverage = false →
        (s.park.length + g.length ≤ 64 → ∃ t, exec (.segmentOffer m) s = .next t
            ∧ t.park = s.park ++ parkEntries ⟨f, s.fills[f].generation⟩ m sp (c.dirIndex sp.record) sp.offset xs
            ∧ t.fills = s.fills.set f { s.fills[f] with
                coverage := s.fills[f].coverage ||| fullWrites sp.offset xs, parked := s.fills[f].parked + xs.length }
            ∧ t.lanes = (takeWords m (List.replicate g.length (.done ⟨0, .okay, .plain⟩)) s).lanes
            ∧ t.counters = (countTimes .writesParked sp.window xs.length s).counters
            ∧ t = { s with
                lanes := t.lanes, responseGrant := t.responseGrant, fills := t.fills, park := t.park,
                counters := t.counters })
          ∧ (64 < s.park.length + g.length → stalls))
      ∧ (Live s sp.window → openFill s sp.window sp.record = none → freeFill s = some f →
        c.yieldPolicy = .readersFirst → (∀ target, ¬ MayBeActive u sp.window sp.record m target) →
        (s.park.length + g.length ≤ 64 → ∃ t, exec (.segmentOffer m) s = .next t
            ∧ t.park = s.park
              ++ parkEntries ⟨f, s.fills[f].generation + 1⟩ m sp (c.dirIndex sp.record) sp.offset xs
            ∧ t.fills = s.fills.set f
                { openedFill s m sp.window sp.record f (fullWrites sp.offset xs) with parked := xs.length }
            ∧ t.holds = u.holds
            ∧ (∀ n : Tag, t.lanes[n].reqs
                = (takeWords m (List.replicate g.length (.done ⟨0, .okay, .plain⟩)) s).lanes[n].reqs)
            ∧ t.counters = (countTimes .writesParked sp.window xs.length s).counters
            ∧ SlotsFollow s t
            ∧ t = { s with
                lanes := t.lanes, responseGrant := t.responseGrant, holds := t.holds, slots := t.slots, fills := t.fills,
                park := t.park, counters := t.counters })
          ∧ (64 < s.park.length + g.length → stalls))

/-! ### Grants (R13, R19) -/

/-- Tier 2, derived. Among candidate lanes the first at or after the lane following the last one granted is chosen,
counting from 15 round to 0; lane numbers are taken modulo 16. No lane is granted while a copy request or a RELEASED parked
word waits, no parked word while a copy request waits, and nothing with 8 requests in flight (R16, R19). -/
def Obligations.ArbiterOrder : Prop :=
  ∀ (s : State) (m : Tag),
    (nextLane s = some m ↔ s.lanes[m].phase = .candidate
        ∧ ∀ n : Tag, s.lanes[n].phase = .candidate → (m - (s.lastIssueLane + 1)).val ≤ (n - (s.lastIssueLane + 1)).val)
      ∧ (s.Settled → (s.copies ≠ [] ∨ (∃ e ∈ s.park, ∃ a, e.condition = .released a) ∨ 8 ≤ s.inFlight.length) →
        exec .laneSegmentGrant s = .next s)
      ∧ (s.Settled → (s.copies ≠ [] ∨ 8 ≤ s.inFlight.length) → exec .parkReleaseGrant s = .next s)
      ∧ (s.Settled → 8 ≤ s.inFlight.length → exec .copyRequestGrant s = .next s)

/-- Tier 2, derived. A segment that passes becomes a candidate when it is offered, and nothing else changes; its grant
issues it unchanged: one downstream request of its kind, address, length and data joins the tail of the in-flight list, its
words wait with guard status PLAIN, and its lane is the last one granted (R10, R11, R12, R13, R16, R17). -/
def Obligations.PassingSegmentIsIssued : Prop :=
  ∀ (s : State) (m : Tag) (q : Request) (g : Segment), Passes s g →
    (Offered s m q g → exec (.segmentOffer m) s = .next { s with
        lanes := s.lanes.set m { s.lanes[m] with phase := .candidate } })
      ∧ (Granted s m q g → ∃ t, exec .laneSegmentGrant s = .next t
        ∧ (∀ n, q.body = .read n → t.inFlight = s.inFlight ++
            [⟨⟨.ofNat 30 (q.addr.toNat + g.first), .read g.length⟩, .laneRead ⟨m, q.place, g.first, g.length⟩ none []⟩])
        ∧ (∀ ws, q.body = .write ws → t.inFlight = s.inFlight ++
            [⟨⟨.ofNat 30 (q.addr.toNat + g.first), .write ((ws.drop g.first).take g.length)⟩,
              .laneWrite ⟨m, q.place, g.first, g.length⟩ none⟩])
        ∧ t.lanes = (takeWords m (List.replicate g.length (.pending .plain)) s).lanes ∧ t.lastIssueLane = m
        ∧ t = { s with
            lanes := t.lanes, responseGrant := t.responseGrant, inFlight := t.inFlight, lastIssueLane := m })

/-- Tier 2, derived. A segment whose decision at its grant is not issue takes that other fate, as it does at its offer: it
issues nothing, and the last lane granted stays. The arbiter then chooses again in the same event (R13, R19): a copy request
or a RELEASED parked word that the other fate brought about is granted; else the next candidate lane of the round is judged,
and is issued and the last lane granted, or is not and the arbiter goes on; with no candidate left nothing more happens. That
a lane which did not use the grant is not offered it again in the event, though its next segment may be one to issue, is how
the model reads 'the candidates that remain' (DEDUCED, log 20). -/
def Obligations.GrantJudgesAgain : Prop :=
  ∀ (s : State) (m : Tag) (q : Request) (g : Segment), Granted s m q g →
    (∀ how, decideSegment s m q g ≠ .issue how) →
    let u := carryOut m q g (decideSegment s m q g) s
    let grant := exec .laneSegmentGrant s
    let released := ∃ e ∈ u.park, ∃ a, e.condition = .released a
    let next := fun n : Tag => n ≠ m ∧ u.lanes[n].phase = .candidate
      ∧ ∀ l : Tag, l ≠ m → u.lanes[l].phase = .candidate → turn s n ≤ turn s l
    u.inFlight = s.inFlight ∧ u.lastIssueLane = s.lastIssueLane
      ∧ (∀ k ks, u.copies = k :: ks → ∃ t, grant = .next t ∧ t = grantCopy u ∧ t.copies = ks
          ∧ t.inFlight = s.inFlight ++ [⟨⟨k.addr, .read k.length⟩, .copy k.slot k.hold k.window k.record k.master false⟩])
      ∧ (u.copies = [] → released → grant = .next (grantRelease u))
      ∧ (u.copies = [] → ¬ released → (∀ n : Tag, n ≠ m → u.lanes[n].phase ≠ .candidate) → grant = .next u)
      ∧ (∀ n q' g', u.copies = [] → ¬ released → next n → headSegment u n = some (q', g') →
          (∀ how, decideSegment u n q' g' = .issue how →
            grant = .next (issueSegment n q' g' how { u with lastIssueLane := n }))
          ∧ ((∀ how, decideSegment u n q' g' ≠ .issue how) → ∃ lanes : List Tag,
            (∀ l, l ∈ lanes ↔ turn s n < turn s l) ∧ lanes.Pairwise (fun a b => turn s a < turn s b)
              ∧ grant = .next (grantAgain (grantRound lanes) (carryOut n q' g' (decideSegment u n q' g') u))))

/-- Tier 2, derived. The grant of a read of the lead word that opens a hold, in a LIVE SINGLE or BANKED window, loads an entry,
OPEN: the master's own BROKEN one, else the lowest FREE one, else the BROKEN one with the least linger (R51). It takes the
directory's version and DAMAGED flag, the window's hold limit, the segment's words as coverage, and in BANKED the active
bank as its pin; the read is issued there, HELD or TORN, and holds-opened is incremented (R48, R49, R50, R56, R110). A read of
every guard word, in a window of any mode, LIVE or DRAINING, uses no entry: it is HELD or TORN, and a BROKEN entry of the
master for the record is FREE (R55). Where no entry can be chosen, or in SNAP no slot is FREE, the read is issued DENIED,
HOLD_DENIED names what lacked, holds-denied is incremented, and no entry changes (R52, R126). -/
def Obligations.GrantOpensHold : Prop :=
  ∀ (s : State) (m : Tag) (q : Request) (g : Segment) (sp : GuardSpan), Granted s m q g → ReadsGuard s q g sp →
    MayOpen s m sp →
    let c := s.cfg sp.window
    let e := s.dirEntry sp.window sp.record
    let bank := plainBank s sp.window sp.record
    let issued := fun (hold : Option HoldNo) (guard : GuardStatus) (t : State) =>
      exec .laneSegmentGrant s = .next t
        ∧ t.inFlight = s.inFlight ++ [⟨⟨recordWord c bank sp.record 0, .read g.length⟩,
            .laneRead ⟨m, q.place, g.first, g.length⟩ (some ⟨sp.window, sp.record, hold⟩) []⟩]
        ∧ t.lanes = (takeWords m (List.replicate g.length (.pending guard)) s).lanes
    let denied := fun lacks : Resource => ∃ t, issued none .denied t
      ∧ t.counters = counted .holdsDenied sp.window s
      ∧ Reported ⟨.holdDenied, some sp.window, some sp.record, some m, some lacks, 1⟩ s t
      ∧ t = { s with
          lanes := t.lanes, responseGrant := t.responseGrant, inFlight := t.inFlight, lastIssueLane := m,
          counters := t.counters, events := t.events, alertLow := t.alertLow }
    (∀ i, c.mode ≠ .snap → Live s sp.window → sp.length < c.guardLen.toNat → c.guardLen.toNat ≤ 16 →
        Chosen s m sp.window sp.record i → ∃ t, issued (some i) (if e.damaged then .torn else .held) t
          ∧ t.holds = s.holds.set i
              { state := .opened, master := m, window := sp.window, record := sp.record, versionSeen := e.version,
                damagedAtOpen := e.damaged, pinnedBank := bank, slot := none, coverage := offsetSet 0 sp.length,
                countdown := c.holdLimit, reason := none, leftService := false }
          ∧ t.counters = counted .holdsOpened sp.window s
          ∧ t = { s with
              lanes := t.lanes, responseGrant := t.responseGrant, inFlight := t.inFlight, lastIssueLane := m,
              holds := t.holds, counters := t.counters })
      ∧ (sp.length = c.guardLen.toNat → ∃ t, issued none (if e.damaged then .torn else .held) t
          ∧ t.holds = givenUp s m sp.window sp.record
          ∧ t = { s with
              lanes := t.lanes, responseGrant := t.responseGrant, inFlight := t.inFlight, lastIssueLane := m,
              holds := t.holds })
      ∧ (Live s sp.window → sp.length ≠ c.guardLen.toNat → (∀ i, ¬ Chosen s m sp.window sp.record i) → denied .entry)
      ∧ (∀ i, Live s sp.window → sp.length ≠ c.guardLen.toNat → c.mode = .snap → Chosen s m sp.window sp.record i →
        (∀ k : SlotNo, s.slots[k] ≠ .free) → denied .slot)

/-- Tier 2, derived. The grant of a continuation of an OPEN hold in a LIVE SINGLE or BANKED window issues it to the pinned
bank or the face, HELD or TORN by damaged-at-open; countdown and version seen are kept while words are uncovered, and the
hold closes when the last is covered, and a WAITING fill of the record is tested then (R48, R49, R54, R56, R57, R66). A read
without the lead word by a master whose entry is BROKEN is issued to the active bank or the face, TORN; its words join the
coverage, and the entry is FREE when the last is covered (R64). One by a master without an entry is issued there too, PLAIN,
or TORN while the record is DAMAGED, and changes no entry (R47, case 5). -/
def Obligations.GrantContinuesHold : Prop :=
  ∀ (s : State) (m : Tag) (q : Request) (g : Segment) (sp : GuardSpan), Granted s m q g → ReadsGuard s q g sp →
    OwnsNoFill s m sp.window sp.record →
    let issued := fun (bank : Option Bank) (hold : Option HoldNo) (t : State) =>
      exec .laneSegmentGrant s = .next t
        ∧ t.inFlight = s.inFlight ++ [⟨⟨recordWord (s.cfg sp.window) bank sp.record sp.offset, .read g.length⟩,
            .laneRead ⟨m, q.place, g.first, g.length⟩ (some ⟨sp.window, sp.record, hold⟩) []⟩]
    let taken := fun guard : GuardStatus => (takeWords m (List.replicate g.length (.pending guard)) s).lanes
    (∀ i, findHold s m sp.window sp.record = some i →
      let c := s.holds[i].coverage ||| offsetSet sp.offset sp.length
      ((s.cfg sp.window).mode ≠ .snap → Live s sp.window → s.holds[i].state = .opened →
        ∃ t, issued s.holds[i].pinnedBank (some i) t
          ∧ (covers (s.cfg sp.window).guardLen.toNat c = false →
              t.lanes = taken (heldOrTorn s.holds[i].damagedAtOpen)
              ∧ t.holds = s.holds.set i { s.holds[i] with coverage := c }
              ∧ t = { s with
                  lanes := t.lanes, responseGrant := t.responseGrant, inFlight := t.inFlight, lastIssueLane := m,
                  holds := t.holds })
          ∧ (covers (s.cfg sp.window).guardLen.toNat c = true →
              (∀ n : Tag, t.lanes[n].reqs = (taken (heldOrTorn s.holds[i].damagedAtOpen))[n].reqs)
              ∧ t.holds = s.holds.set i .cleared
              ∧ FillTested { s with holds := t.holds } sp.window sp.record t
              ∧ SlotsFollow s t
              ∧ t = { s with
                  lanes := t.lanes, responseGrant := t.responseGrant, inFlight := t.inFlight, lastIssueLane := m,
                  holds := t.holds, slots := t.slots, fills := t.fills, park := t.park }))
      ∧ (s.holds[i].state = .broken → sp.offset ≠ 0 →
        ∃ t, issued (plainBank s sp.window sp.record) (some i) t ∧ t.lanes = taken .torn
          ∧ t.holds = s.holds.set i (if covers (s.cfg sp.window).guardLen.toNat c then .cleared
              else { s.holds[i] with coverage := c })
          ∧ t = { s with
              lanes := t.lanes, responseGrant := t.responseGrant, inFlight := t.inFlight, lastIssueLane := m,
              holds := t.holds }))
      ∧ (findHold s m sp.window sp.record = none → sp.offset ≠ 0 →
        ∃ t, issued (plainBank s sp.window sp.record) none t
          ∧ t.lanes = taken (if (s.dirEntry sp.window sp.record).damaged then .torn else .plain)
          ∧ t = { s with
              lanes := t.lanes, responseGrant := t.responseGrant, inFlight := t.inFlight, lastIssueLane := m })

/-- Tier 2, derived. The grant of a write that continues an ACTIVE fill of its master in a LIVE window, with words still
uncovered after it, issues it to the target bank or the face and counts the words written whole; no other fill, hold,
directory entry, counter or event changes (R76, R77, R117). The grant of a write that opens a fill decided ACTIVE, with words
uncovered after it, does in one event: the master's own entry for the record is given up (R58); under WRITER_FIRST the OPEN
holds in the way are BROKEN with reason YIELDED, each reported and counted (R95, R115), in an order that is free (log 10); the
lowest FREE entry is allocated with the next generation, the fill limit and, in BANKED, its target bank (R74, R112); and
the write is issued there, its words counted. -/
def Obligations.GrantContinuesFill : Prop :=
  ∀ (s : State) (m : Tag) (q : Request) (g : Segment) (sp : GuardSpan) (xs : List WriteWord) (f : FillNo),
    Granted s m q g → WritesGuard s q g sp xs → mayProduce (s.cfg sp.window).producer m = true → Live s sp.window →
    let c := s.cfg sp.window
    let issued := fun (target : Option Bank) (generation : BitVec 8) (t : State) => exec .laneSegmentGrant s = .next t
      ∧ t.inFlight = s.inFlight ++ [⟨⟨recordWord c target sp.record sp.offset, .write xs⟩,
          .laneWrite ⟨m, q.place, g.first, g.length⟩ (some ⟨sp.window, sp.record, c.dirIndex sp.record, ⟨f, generation⟩⟩)⟩]
    let taken := (takeWords m (List.replicate g.length (.pending .plain)) s).lanes
    let u := { s with holds := givenUp s m sp.window sp.record }
    (openFill s sp.window sp.record = some f → s.fills[f].owner = m → s.fills[f].state = .active →
        s.fills[f].abandoned = false → covers c.guardLen.toNat s.fills[f].coverage = false →
        covers c.guardLen.toNat (s.fills[f].coverage ||| fullWrites sp.offset xs) = false →
        ∃ t, issued s.fills[f].target s.fills[f].generation t ∧ t.lanes = taken
          ∧ t.fills = s.fills.set f { s.fills[f] with coverage := s.fills[f].coverage ||| fullWrites sp.offset xs }
          ∧ t = { s with
              lanes := t.lanes, responseGrant := t.responseGrant, inFlight := t.inFlight, lastIssueLane := m,
              fills := t.fills })
      ∧ (∀ target, openFill s sp.window sp.record = none → freeFill s = some f →
        NoUnissuedCopy s sp.window sp.record → OpensActive u sp.window sp.record m target →
        covers c.guardLen.toNat (fullWrites sp.offset xs) = false →
        let ys := yielding u sp.window sp.record m target
        ∃ t, issued target (s.fills[f].generation + 1) t ∧ (∀ n : Tag, t.lanes[n].reqs = taken[n].reqs)
          ∧ t.fills = s.fills.set f
              (activeFill s target (openedFill s m sp.window sp.record f (fullWrites sp.offset xs)))
          ∧ (∀ i : HoldNo, t.holds[i] = if i ∈ ys then brokenHold s .yielded u.holds[i] else u.holds[i])
          ∧ SlotsFollow s t
          ∧ t.counters = (countTimes .holdsBroken sp.window ys.length s).counters
          ∧ (∃ is : List HoldNo, is.Perm ys
            ∧ ReportedAll (is.map fun i => .of .holdYielded sp.window sp.record u.holds[i].master) s t)
          ∧ t = { s with
              lanes := t.lanes, responseGrant := t.responseGrant, inFlight := t.inFlight, lastIssueLane := m,
              holds := t.holds, slots := t.slots, fills := t.fills, counters := t.counters, events := t.events,
              alertLow := t.alertLow, freeCount := t.freeCount })

/-- Tier 2, derived. The grant of the write that completes the coverage of an ACTIVE fill publishes it in the same event:
version plus one, FRESH set, STALE clear, DAMAGED clear unless a write of the fill was answered FAULT, the stamp of the
moment, and in BANKED the target bank active; the entry is FREE and keeps its generation, and fills-published is
incremented (R39, R80, R118). One write of every guard word that opens a fill decided ACTIVE opens, completes and publishes
it in one event, after the surrender and the yields: the entry it took is FREE again with the next generation (R74, R81). -/
def Obligations.CompletingWritePublishes : Prop :=
  ∀ (s : State) (m : Tag) (q : Request) (g : Segment) (sp : GuardSpan) (xs : List WriteWord) (f : FillNo),
    Granted s m q g → WritesGuard s q g sp xs → mayProduce (s.cfg sp.window).producer m = true → Live s sp.window →
    dirWf s.directory →
    let c := s.cfg sp.window
    let i := c.dirIndex sp.record
    let e := dirGet s.directory i
    let published := fun (target : Option Bank) (generation : BitVec 8) (faulted : Bool) (t : State) =>
      exec .laneSegmentGrant s = .next t
        ∧ dirGet t.directory i =
            { activeBank := target.getD e.activeBank, version := e.version + 1, fresh := true, stale := false,
              damaged := e.damaged && faulted, publishedAt := s.timeBase.value }
        ∧ (∀ j, j ≠ i → dirGet t.directory j = dirGet s.directory j)
        ∧ t.fills = s.fills.set f (.cleared generation)
        ∧ t.inFlight = s.inFlight ++ [⟨⟨recordWord c target sp.record sp.offset, .write xs⟩,
            .laneWrite ⟨m, q.place, g.first, g.length⟩ (some ⟨sp.window, sp.record, i, ⟨f, generation⟩⟩)⟩]
        ∧ (∀ n : Tag, t.lanes[n].reqs = (takeWords m (List.replicate g.length (.pending .plain)) s).lanes[n].reqs)
    let u := { s with holds := givenUp s m sp.window sp.record }
    (openFill s sp.window sp.record = some f → s.fills[f].owner = m → s.fills[f].state = .active →
        s.fills[f].abandoned = false → s.fills[f].parked = 0 → covers c.guardLen.toNat s.fills[f].coverage = false →
        covers c.guardLen.toNat (s.fills[f].coverage ||| fullWrites sp.offset xs) = true →
        ∃ t, published s.fills[f].target s.fills[f].generation s.fills[f].writeFaulted t
          ∧ t.counters = counted .fillsPublished sp.window s
          ∧ Reported (.of .fillPublished sp.window sp.record m) s t
          ∧ t = { s with
              lanes := t.lanes, responseGrant := t.responseGrant, inFlight := t.inFlight, lastIssueLane := m,
              directory := t.directory, fills := t.fills, counters := t.counters, events := t.events,
              alertLow := t.alertLow })
      ∧ (∀ target, openFill s sp.window sp.record = none → freeFill s = some f →
        NoUnissuedCopy s sp.window sp.record → OpensActive u sp.window sp.record m target →
        covers c.guardLen.toNat (fullWrites sp.offset xs) = true →
        let ys := yielding u sp.window sp.record m target
        ∃ t, published target (s.fills[f].generation + 1) false t
          ∧ (∀ i : HoldNo, t.holds[i] = if i ∈ ys then brokenHold s .yielded u.holds[i] else u.holds[i])
          ∧ SlotsFollow s t
          ∧ t.counters = (count .fillsPublished sp.window (countTimes .holdsBroken sp.window ys.length s)).counters
          ∧ (∃ is : List HoldNo, is.Perm ys
            ∧ ReportedAll ((is.map fun i => .of .holdYielded sp.window sp.record u.holds[i].master)
                ++ [.of .fillPublished sp.window sp.record m]) s t)
          ∧ t = { s with
              lanes := t.lanes, responseGrant := t.responseGrant, inFlight := t.inFlight, lastIssueLane := m,
              directory := t.directory, holds := t.holds, slots := t.slots, fills := t.fills, counters := t.counters,
              events := t.events, alertLow := t.alertLow, freeCount := t.freeCount })

/-- Tier 2, derived. COPY_REQUEST_GRANT issues the oldest copy request as one read of its length at its address, and
re-offers the writes that stall behind a copy of that record (R19, R124, R127). -/
def Obligations.CopyGrantIssuesOldest : Prop :=
  ∀ (s : State) (k : CopyRequest) (ks : List CopyRequest), s.Settled → s.copies = k :: ks → s.inFlight.length < 8 →
    ∃ t, exec .copyRequestGrant s = .next t ∧ t.copies = ks
      ∧ t.inFlight = s.inFlight ++
          [⟨⟨k.addr, .read k.length⟩, .copy k.slot k.hold k.window k.record k.master false⟩]
      ∧ (∀ m : Tag, t.lanes[m] = if s.lanes[m].phase = .stalled (.unissuedCopy k.window k.record) then
          { s.lanes[m] with phase := .toOffer } else s.lanes[m])
      ∧ t = { s with lanes := t.lanes, inFlight := t.inFlight, copies := ks }

/-- Tier 2, derived. PARK_RELEASE_GRANT issues the earliest RELEASED entry as a one-word write at its release address, and
it leaves the queue (R19, R101, R102); an entry without a fill changes no fill (R107); the last parked word of an ACTIVE
fill with complete coverage publishes it in the same event (R39, R80). -/
def Obligations.ReleaseGrantIssuesEarliest : Prop :=
  ∀ (s : State) (pre post : List ParkEntry) (e : ParkEntry) (a : WordAddr), s.Settled → s.copies = [] →
    s.inFlight.length < 8 → s.park = pre ++ e :: post → (∀ x ∈ pre, x.condition = .parked) → e.condition = .released a →
    ∃ t, exec .parkReleaseGrant s = .next t ∧ t.park = pre ++ post
      ∧ t.inFlight = s.inFlight ++
          [⟨⟨a, .write [e.word]⟩, .release e.fill e.window e.record e.dirIndex e.master e.offset⟩]
      ∧ (e.fill = none → t.fills = s.fills)
      ∧ (∀ f, e.fill = some f → refersTo f s = true → 1 < s.fills[f.index].parked →
          t.fills = s.fills.set f.index { s.fills[f.index] with parked := s.fills[f.index].parked - 1 })
      ∧ (∀ f, e.fill = some f → refersTo f s = true → s.fills[f.index].state = .active → s.fills[f.index].parked = 1 →
          s.fills[f.index].abandoned = false → dirWf s.directory →
          covers (s.cfg s.fills[f.index].window).guardLen.toNat s.fills[f.index].coverage = true →
          let x := s.fills[f.index]
          let d := dirGet s.directory ((s.cfg x.window).dirIndex x.record)
          dirGet t.directory ((s.cfg x.window).dirIndex x.record) =
              { activeBank := x.target.getD d.activeBank, version := d.version + 1, fresh := true, stale := false,
                damaged := d.damaged && x.writeFaulted, publishedAt := s.timeBase.value }
            ∧ t.fills = s.fills.set f.index (.cleared x.generation) ∧ t.counters = counted .fillsPublished x.window s
            ∧ (Live s e.window → Reported (.of .fillPublished x.window x.record x.owner) s t))
      ∧ (Live s e.window → (∀ f, e.fill = some f → refersTo f s = true → 1 < s.fills[f.index].parked) →
          t = { s with lanes := t.lanes, inFlight := t.inFlight, park := pre ++ post, fills := t.fills })
      ∧ (∀ m : Tag, t.lanes[m].reqs = s.lanes[m].reqs) ∧ t.lastIssueLane = s.lastIssueLane ∧ t.copies = []

/-! ### Responses (R17, R18) -/

/-- Tier 2, derived. SEGMENT_RESPONSE to a read gives each word of the segment memory's data, under the overlay kept with the
read, and memory's beat status, with the guard status fixed at its take; the entry leaves the list (R2, R17, R18, R88). The
overlay replaces a byte exactly where its enable is set. The grant of a read of the record's guard words by the owner of its
open fill, in a window of any state, is the own-view read: PLAIN, at the face, or in BANKED in the active bank while the fill
is WAITING and in its target bank while it is ACTIVE; it changes no hold; and its overlay has, for each byte of each word, the
byte of the last parked entry of the fill for that word that enables it, and none where no entry does (R87, R88, R103). -/
def Obligations.ReadResponsePlaced : Prop :=
  (∀ (s : State) (x : InFlight) (rest : List InFlight) (p : LanePos) (o : Option GuardReadOrigin) (ov : List WriteWord)
    (beats : List MemBeat), s.Settled → s.inFlight = x :: rest → x.origin = .laneRead p o ov → beats.length = p.length →
    ∃ t, exec (.segmentResponse (.read beats)) s = .next t ∧ t.inFlight = rest
      ∧ t.lanes[p.lane].reqs = s.lanes[p.lane].reqs.map (fun q =>
          if q.place = p.place then
            q.placeAt p.first (List.zipWith (fun (w : WordState) (b : MemBeat) => .done ⟨b.data, b.status, w.guardOf⟩)
              ((q.words.drop p.first).take p.length)
              (beats.mapIdx fun j b => ⟨overlayWord b.data (ov.getD j ⟨0, 0⟩), b.status⟩))
          else q)
      ∧ (∀ n : Tag, n ≠ p.lane → t.lanes[n] = s.lanes[n])
      ∧ t = { s with lanes := t.lanes, responseGrant := t.responseGrant, inFlight := rest })
    ∧ (∀ (d : Word) (w : WriteWord) (k : Fin 4),
      byteOf k (overlayWord d w) = if w.enables.getLsbD k.val then byteOf k w.data else byteOf k d)
    ∧ ∀ (s : State) (m : Tag) (q : Request) (g : Segment) (sp : GuardSpan) (f : FillNo), Granted s m q g →
      ReadsGuard s q g sp → openFill s sp.window sp.record = some f → s.fills[f].owner = m →
      ((s.cfg sp.window).mode ≠ .banked → s.fills[f].target = none) →
      let bank := if s.fills[f].state = .active then s.fills[f].target else plainBank s sp.window sp.record
      ∃ t ov, exec .laneSegmentGrant s = .next t
        ∧ t.inFlight = s.inFlight ++ [⟨⟨recordWord (s.cfg sp.window) bank sp.record sp.offset, .read g.length⟩,
            .laneRead ⟨m, q.place, g.first, g.length⟩ (some ⟨sp.window, sp.record, none⟩) ov⟩]
        ∧ ov.length = sp.length
        ∧ (∀ (j : Nat) (x : WriteWord) (k : Fin 4), ov[j]? = some x →
          let last := (s.park.filter fun e => decide (e.fill = some ⟨f, s.fills[f].generation⟩
            ∧ e.offset = sp.offset + j ∧ e.word.enables.getLsbD k.val = true)).getLast?
          x.enables.getLsbD k.val = last.isSome ∧ ∀ e, last = some e → byteOf k x.data = byteOf k e.word.data)
        ∧ t.lanes = (takeWords m (List.replicate g.length (.pending .plain)) s).lanes
        ∧ t = { s with
            lanes := t.lanes, responseGrant := t.responseGrant, inFlight := t.inFlight, lastIssueLane := m }

/-- Tier 2, derived. SEGMENT_RESPONSE to a write places its status as the segment's outcome, at the segment's words, and the
entry leaves the list; the other lanes stand; with OKAY, or for a write of no fill, nothing else changes (R3, R17). Memory's
FAULT to a fill's write marks its directory entry DAMAGED and changes nothing else of the directory; the fill's write-faulted
flag is set exactly when the entry still holds that fill; FILL_WRITE_FAULT is reported (R40, R86). -/
def Obligations.FillWriteFaultMarksDamaged : Prop :=
  ∀ (s : State) (x : InFlight) (rest : List InFlight) (p : LanePos) (origin : Option GuardWriteOrigin) (st : BeatStatus),
    s.Settled → dirWf s.directory → s.inFlight = x :: rest → x.origin = .laneWrite p origin →
    ∃ t, exec (.segmentResponse (.write st)) s = .next t ∧ t.inFlight = rest
      ∧ t.lanes[p.lane].reqs = s.lanes[p.lane].reqs.map (fun q =>
          if q.place = p.place then
            q.placeAt p.first (((q.words.drop p.first).take p.length).map fun _ => .done ⟨0, st, .plain⟩)
          else q)
      ∧ (∀ n : Tag, n ≠ p.lane → t.lanes[n] = s.lanes[n])
      ∧ (st = .okay ∨ origin = none →
          t = { s with lanes := t.lanes, responseGrant := t.responseGrant, inFlight := rest })
      ∧ (∀ o, st = .fault → origin = some o →
          dirGet t.directory o.dirIndex = { dirGet s.directory o.dirIndex with damaged := true }
            ∧ (∀ j, j ≠ o.dirIndex → dirGet t.directory j = dirGet s.directory j)
            ∧ t.fills = (if refersTo o.fill s then
                s.fills.set o.fill.index { s.fills[o.fill.index] with writeFaulted := true } else s.fills)
            ∧ Reported (.of .fillWriteFault o.window o.record p.lane) s t
            ∧ t = { s with
                lanes := t.lanes, responseGrant := t.responseGrant, inFlight := rest, directory := t.directory,
                fills := t.fills, events := t.events, alertLow := t.alertLow })

/-- Tier 1, derived. What the manual gives no effect stops the model by name: a request of no or more than 16 words, which
cannot be presented (section 1.1), an abort at a byte boundary, a known code as an unknown one (log 16), and a read response
of another length than its request, or of the other kind (R15 requires one response for each request; log 15). -/
def Obligations.StopsByName : Prop :=
  ∀ (s : State) (m : Tag) (addr : WordAddr) (body : Body) (bytes : List Byte) (code : Byte),
    (burstOk body.length = false → exec (.requestArrival m addr body) s = .refused .illFormed)
      ∧ (bytes ≠ [] → exec (.frameAbort bytes 0) s = .refused .illFormed)
      ∧ (code ∈ commandCodes → exec (.unknownCommand code bytes) s = .refused .illFormed)
      ∧ ∀ (x : InFlight) (rest : List InFlight) (p : LanePos) (o : Option GuardReadOrigin) (ov : List WriteWord)
        (beats : List MemBeat) (st : BeatStatus), s.Settled → s.inFlight = x :: rest → x.origin = .laneRead p o ov →
        (beats.length ≠ p.length → exec (.segmentResponse (.read beats)) s = .fault .malformedResponse)
          ∧ exec (.segmentResponse (.write st)) s = .fault .malformedResponse

/-- Tier 2, derived. A copy that returns with every beat OKAY. To a COPYING entry of a LIVE window, whose bound read leaves
words uncovered: the slot holds the words, the entry is OPEN with the bound words as coverage and its countdown as it was,
and the read is answered from the copy (R53, R56, R129). To an entry broken while COPYING: the read is answered TORN from the
copy, the slot is FREE, and the entry names none; it is FREE when the read covers it or it has left service, and lingers on
with the read's words as coverage otherwise (R63, R129). Orphaned by a soft reset: the read is answered PLAIN from the
response, and no entry and no slot changes (R129, R135). -/
def Obligations.CopyReturnOpensHold : Prop :=
  ∀ (s : State) (x : InFlight) (rest : List InFlight) (k : SlotNo) (i : HoldNo) (w : WindowNo) (r : Nat) (m : Tag)
    (orphan : Bool) (beats : List MemBeat) (b : Nat),
    s.Settled → s.inFlight = x :: rest → x.origin = .copy k i w r m orphan → beats.length = x.req.body.length →
    (∀ y ∈ beats, y.status = .okay) → s.lanes[m].phase = .bound b →
    let words := beats.map MemBeat.data
    let taken := fun guard : GuardStatus =>
      (takeWords m ((List.range b).map fun j => .done ⟨words.getD j 0, .okay, guard⟩) s).lanes
    let h := s.holds[i]
    let c := h.coverage ||| offsetSet 0 b
    (orphan = false → h.state = .copying → h.window = w → h.record = r → Live s w →
        covers (s.cfg w).guardLen.toNat c = false →
        ∃ t, exec (.copyResponse beats) s = .next t ∧ t.inFlight = rest
          ∧ t.slots = s.slots.set k (.loaded i (s.cfg w).guardLen.toNat (words.take (s.cfg w).guardLen.toNat))
          ∧ t.holds = s.holds.set i { h with state := .opened, coverage := c }
          ∧ (∀ n : Tag, t.lanes[n].reqs = (taken (heldOrTorn h.damagedAtOpen))[n].reqs)
          ∧ t = { s with
              lanes := t.lanes, responseGrant := t.responseGrant, inFlight := rest, holds := t.holds,
              slots := t.slots })
      ∧ (orphan = false → h.state = .broken → ∃ t, exec (.copyResponse beats) s = .next t ∧ t.inFlight = rest
          ∧ t.slots = s.slots.set k .free
          ∧ t.holds = s.holds.set i (if h.leftService = true ∨ covers (s.cfg h.window).guardLen.toNat c = true then .cleared
              else { h with slot := none, coverage := c })
          ∧ t.lanes = taken .torn
          ∧ t = { s with
              lanes := t.lanes, responseGrant := t.responseGrant, inFlight := rest, holds := t.holds,
              slots := t.slots })
      ∧ (orphan = true → ∃ t, exec (.copyResponse beats) s = .next t ∧ t.inFlight = rest ∧ t.lanes = taken .plain
          ∧ t = { s with lanes := t.lanes, responseGrant := t.responseGrant, inFlight := rest })

/-- Tier 2, derived. A copy answered FAULT frees entry and slot, refuses the bound read, reports COPY_FAULT and changes
nothing else but that writes stalled behind the copy are offered again; orphaned by a soft reset, it touches no entry
and no slot (R130, R135). -/
def Obligations.CopyFaultFreesEntry : Prop :=
  ∀ (s : State) (x : InFlight) (rest : List InFlight) (k : SlotNo) (i : HoldNo) (w : WindowNo) (r : Nat) (m : Tag)
    (orphan : Bool) (beats : List MemBeat) (b : Nat), s.Settled → s.inFlight = x :: rest → x.origin = .copy k i w r m orphan →
    beats.length = x.req.body.length → (∃ y ∈ beats, y.status = .fault) → s.windows[w].isDraining = false →
    s.lanes[m].phase = .bound b →
    ∃ t, exec (.copyResponse beats) s = .next t ∧ t.inFlight = rest
      ∧ t.holds = (if orphan then s.holds else s.holds.set i .cleared)
      ∧ t.slots = (if orphan then s.slots else s.slots.set k .free)
      ∧ (∀ n : Tag, t.lanes[n].reqs = (takeWords m (List.replicate b (.done ⟨0, .fault, .plain⟩)) s).lanes[n].reqs)
      ∧ Reported (.of .copyFault w r m) s t
      ∧ t = { s with
          lanes := t.lanes, responseGrant := t.responseGrant, inFlight := rest, holds := t.holds, slots := t.slots,
          events := t.events, alertLow := t.alertLow }

/-- Tier 2, stated (R105). PARK_RELEASE_RESPONSE: OKAY changes nothing but the list; FAULT marks the directory entry kept
with the release DAMAGED, sets the write-faulted flag of the fill it names when that fill is still open with the same
generation, and reports PARKED_WRITE_FAULT; no lane is touched. -/
def Obligations.ReleaseResponse : Prop :=
  ∀ (s : State) (x : InFlight) (rest : List InFlight) (fill : Option FillRef) (w : WindowNo) (r i : Nat) (m : Tag)
    (j : Nat), s.Settled → dirWf s.directory → s.inFlight = x :: rest → x.origin = .release fill w r i m j →
    exec (.parkReleaseResponse .okay) s = .next { s with inFlight := rest }
      ∧ ∃ t, exec (.parkReleaseResponse .fault) s = .next t ∧ t.lanes = s.lanes
        ∧ dirGet t.directory i = { dirGet s.directory i with damaged := true }
        ∧ (∀ n, n ≠ i → dirGet t.directory n = dirGet s.directory n)
        ∧ t.fills = (match fill with
            | some f => if refersTo f s then
                s.fills.set f.index { s.fills[f.index] with writeFaulted := true } else s.fills
            | none => s.fills)
        ∧ Reported (.of .parkedWriteFault w r m) s t
        ∧ t = { s with
            inFlight := rest, directory := t.directory, fills := t.fills, events := t.events, alertLow := t.alertLow }

/-- Tier 1, derived. A response that belongs to no request is accepted and discarded (R18). A countdown's expiry that has
not come about, a response when none is granted, and the start of a sweep while one runs or none is pending change nothing
(DESIGN CHOICE, log 2). -/
def Obligations.EventsThatCannotOccur : Prop :=
  ∀ (s : State) (resp : MemResponse) (beats : List MemBeat) (st : BeatStatus) (i : HoldNo) (f : FillNo) (w : WindowNo),
    exec (.strayResponse resp) s = .next s
      ∧ (s.Settled → s.inFlight = [] → exec (.segmentResponse resp) s = .next s
        ∧ exec (.copyResponse beats) s = .next s ∧ exec (.parkReleaseResponse st) s = .next s)
      ∧ (s.Settled → s.responseGrant = none → exec .responseDelivery s = .next s)
      ∧ ((s.sweep ≠ none ∨ s.pendingSweeps = 0) → exec .sweepStart s = .next s)
      ∧ (holdRanOut s i = false → exec (.holdExpired i) s = .next s)
      ∧ (lingerRanOut s i = false → exec (.lingerExpiry i) s = .next s)
      ∧ (fillRanOut s f = false → exec (.fillExpiry f) s = .next s)
      ∧ (drainRanOut s w = false → exec (.drainCountdownExpiry w) s = .next s)

/-- Tier 2, derived. RESPONSE_DELIVERY: the granted lane delivers its oldest request, which leaves the lane. A read carries
its beats in address order; a write carries FAULT exactly when some word of it ended in FAULT. The lane is the last one
granted, and the next grant goes to the first lane at or after the following one whose oldest request is COMPLETE (R2, R3,
R6, R7). -/
def Obligations.DeliveryInOrder : Prop :=
  ∀ (s : State) (m : Tag) (q : Request) (qs : List Request), s.Settled → s.responseGrant = some m →
    s.lanes[m].reqs = q :: qs → q.complete = true →
    ∃ t, exec .responseDelivery s = .next t ∧ t.lanes = s.lanes.set m { s.lanes[m] with reqs := qs }
      ∧ (∀ n, q.body = .read n → t.delivered = some (.read m (q.words.map WordState.beat)))
      ∧ (∀ ws, q.body = .write ws → ∃ st, t.delivered = some (.write m st)
          ∧ (st = .fault ↔ ∃ x ∈ q.words, x.beat.status = .fault))
      ∧ t.lastResponseLane = m ∧ t.responseGrant = (roundRobin m).find? (fun n => t.lanes[n].hasResponse)
      ∧ t = { s with
          lanes := t.lanes, delivered := t.delivered, lastResponseLane := m, responseGrant := t.responseGrant }

/-! ### Time (chapters 8 and 11) -/

/-- Tier 2, derived. TICK while RUNNING: the value rises by one; the hold countdown of an OPEN entry and the linger of a
BROKEN one without copy data outstanding fall by one, not below 0, as do the countdowns of ACTIVE fills that are not
abandoned and of drains not forced; a hold or fill limit of 0 and COPYING, FREE and WAITING entries do not count (R136,
R138, R60, R63, R65, R83, R174). The alert age countdown falls by one while the latency is not 0 and the queue is not empty;
of an empty queue it is kept, or loaded with the latency when the tick appends a record (R155). No configured field of a
window and no event control changes. While STOPPED nothing changes. -/
def Obligations.TickCountsDown : Prop :=
  ∀ s : State, s.Settled → s.resetLow = false →
    (s.timeBase.run = .stopped → exec .tick s = .next s)
      ∧ (s.timeBase.run = .running → ∃ t, exec .tick s = .next t
          ∧ t.timeBase = { s.timeBase with value := s.timeBase.value + 1 }
          ∧ (∀ i : HoldNo, t.holds[i] =
              if (s.holds[i].state = .opened ∧ (s.cfg s.holds[i].window).holdLimit ≠ 0)
                  ∨ (s.holds[i].state = .broken ∧ s.holds[i].slot = none) then
                { s.holds[i] with countdown := countDown s.holds[i].countdown }
              else s.holds[i])
          ∧ (∀ f : FillNo, t.fills[f] =
              if s.fills[f].state = .active ∧ s.fills[f].abandoned = false
                  ∧ (s.cfg s.fills[f].window).fillLimit ≠ 0 then
                { s.fills[f] with countdown := countDown s.fills[f].countdown }
              else s.fills[f])
          ∧ (∀ (w : WindowNo) (n : BitVec 16), s.windows[w].state = .draining n false →
              t.windows[w].state = .draining (countDown n) false)
          ∧ (∀ w : WindowNo, (∀ n, s.windows[w].state ≠ .draining n false) → t.windows[w].state = s.windows[w].state)
          ∧ (∀ w : WindowNo, t.windows[w].cfg = s.windows[w].cfg)
          ∧ t.events.control = s.events.control
          ∧ (s.events.queue ≠ [] → t.events.age =
              if s.events.control.latency = 0 then s.events.age else countDown s.events.age)
          ∧ (s.events.queue = [] → t.events.age =
              if t.events.queue = [] then s.events.age else s.events.control.latency)
          ∧ t = { s with
              timeBase := t.timeBase, holds := t.holds, fills := t.fills, windows := t.windows,
              pendingSweeps := t.pendingSweeps, events := t.events, alertLow := t.alertLow, freeCount := t.freeCount })

/-- Tier 2, derived. At a tick the new value is compared with the current deadline of every armed comparator: a match in
REPEAT advances the deadline by the period, in ONCE ends the mode; no other live field changes; and the matched windows
that were not pending or swept are the ones that join the pending set (R25, R139, R140). For each of the others that matched
SWEEP_OVERRUN is reported, with its window and no record and no master, and nothing else is (R140); their order is free (log
10), and they are the reports of TICK itself, before those of the run-outs (DESIGN CHOICE, log 33). -/
def Obligations.TickMatchesDeadlines : Prop :=
  ∀ s t : State, s.Settled → s.resetLow = false → s.timeBase.run = .running → exec .tick s = .next t →
    let hit := fun w : WindowNo => s.windows[w].decoded = true ∧ s.windows[w].curFresh ≠ .off
      ∧ s.windows[w].curDeadline = s.timeBase.value + 1
    let swept := fun w : WindowNo => ∃ x, s.sweep = some x ∧ x.window = w
    (∀ w : WindowNo,
      (hit w → s.windows[w].curFresh = .repeating →
          t.windows[w].curDeadline = s.windows[w].curDeadline + (s.cfg w).period ∧ t.windows[w].curFresh = .repeating)
        ∧ (hit w → s.windows[w].curFresh = .once →
          t.windows[w].curDeadline = s.windows[w].curDeadline ∧ t.windows[w].curFresh = .off)
        ∧ (¬ hit w → t.windows[w].curDeadline = s.windows[w].curDeadline ∧ t.windows[w].curFresh = s.windows[w].curFresh)
        ∧ (hasBit t.pendingSweeps w = true ↔ hasBit s.pendingSweeps w = true ∨ (hit w ∧ ¬ swept w)))
      ∧ ∃ ws : List WindowNo, ws.Nodup
        ∧ (∀ w, w ∈ ws ↔ hit w ∧ (hasBit s.pendingSweeps w = true ∨ swept w))
        ∧ ReportedAll (ws.map fun w => ⟨.sweepOverrun, some w, none, none, none, 1⟩)
            { s with
              timeBase := t.timeBase
              events := { s.events with
                age := if s.events.control.latency ≠ 0 ∧ s.events.queue ≠ [] then countDown s.events.age
                  else s.events.age } } t

/-- Tier 2, derived. HOLD_EXPIRED of an OPEN entry whose countdown has run out, in a LIVE window: the entry is BROKEN with
reason EXPIRED, its pin and slot released, the linger loaded; version seen, damaged-at-open and coverage are kept; no other
entry changes; holds-broken is incremented and HOLD_EXPIRED reported; and a WAITING fill of the record is tested (R59, R60,
R66, R79). LINGER_EXPIRY frees a BROKEN entry whose linger has run out, without event or counter (R65). -/
def Obligations.HoldExpiryAndLinger : Prop :=
  ∀ (s : State) (i : HoldNo), s.holds[i].countdown = 0 →
    (s.holds[i].state = .opened → (s.cfg s.holds[i].window).holdLimit ≠ 0 → Live s s.holds[i].window →
      ∃ t, exec (.holdExpired i) s = .next t
        ∧ t.holds = s.holds.set i { s.holds[i] with
            state := .broken, pinnedBank := none, slot := none, countdown := (s.cfg s.holds[i].window).holdLimit,
            reason := some .expired }
        ∧ (∀ k, s.holds[i].slot = some k → t.slots = s.slots.set k .free)
        ∧ (s.holds[i].slot = none → t.slots = s.slots)
        ∧ t.counters = counted .holdsBroken s.holds[i].window s
        ∧ Reported (.of .holdExpired s.holds[i].window s.holds[i].record s.holds[i].master) s t
        ∧ FillTested { s with holds := t.holds } s.holds[i].window s.holds[i].record t
        ∧ (∀ m : Tag, t.lanes[m].reqs = s.lanes[m].reqs)
        ∧ t = { s with
            lanes := t.lanes, holds := t.holds, slots := t.slots, fills := t.fills, park := t.park,
            counters := t.counters, events := t.events, alertLow := t.alertLow })
      ∧ (s.holds[i].state = .broken → s.holds[i].slot = none →
        exec (.lingerExpiry i) s = .next { s with holds := s.holds.set i .cleared })

/-- Tier 2, derived. FILL_EXPIRY of an ACTIVE fill of a LIVE window that has run out: outside BANKED windows its record is
DAMAGED, and nothing else of the directory changes; FILL_ABANDONED is reported and fills-abandoned incremented; without
parked words the entry is FREE, else it is marked abandoned and stays (R83, R84). -/
def Obligations.FillExpiryAbandons : Prop :=
  ∀ (s : State) (f : FillNo), s.fills[f].state = .active → s.fills[f].abandoned = false → s.fills[f].countdown = 0 →
    (s.cfg s.fills[f].window).fillLimit ≠ 0 → Live s s.fills[f].window → dirWf s.directory →
    let w := s.fills[f].window
    let i := (s.cfg w).dirIndex s.fills[f].record
    ∃ t, exec (.fillExpiry f) s = .next t
      ∧ dirGet t.directory i =
          (if (s.cfg w).mode = .banked then dirGet s.directory i else { dirGet s.directory i with damaged := true })
      ∧ (∀ j, j ≠ i → dirGet t.directory j = dirGet s.directory j)
      ∧ t.fills = s.fills.set f
          (if s.fills[f].parked = 0 then .cleared s.fills[f].generation else { s.fills[f] with abandoned := true })
      ∧ t.counters = counted .fillsAbandoned w s
      ∧ Reported (.of .fillAbandoned w s.fills[f].record s.fills[f].owner) s t
      ∧ (∀ m : Tag, t.lanes[m].reqs = s.lanes[m].reqs)
      ∧ t = { s with
          lanes := t.lanes, directory := t.directory, fills := t.fills, counters := t.counters, events := t.events,
          alertLow := t.alertLow }

/-- Tier 2, derived. DRAIN_COUNTDOWN_EXPIRY of a drain that has run out forces it, in a coherent state (R174, R175, R176).
Every OPEN and COPYING hold of the window is BROKEN with reason DRAIN and its linger, and counted; a COPYING one keeps its
slot. Every WAITING fill of it is ACTIVE, in BANKED in the lowest bank that is not active, and its words are RELEASED. Every
fill of it with words uncovered is abandoned, unless it was: FILL_ABANDONED, counted, its record DAMAGED outside BANKED, its
entry FREE when it has no parked word; a covered fill is left to publish. Then DRAIN_FORCED, with the number of holds broken
and fills open; and where no fill and no parked word of the window is left, the window is OFF, as at any completion, with
DRAIN_DONE; else it is marked forced, its countdown stopped. Nothing is issued, no parked word discarded, and no hold, fill or
window of another number changed. The order of the abandonments is free (log 10), and a fill is tested after every break
(DEDUCED, log 30). -/
def Obligations.DrainExpiryForces : Prop :=
  ∀ (s : State) (w : WindowNo), Coherent s → dirWf s.directory → s.windows[w].state = .draining 0 false →
    let c := s.cfg w
    let target := fun r : Nat => if c.mode = .banked then otherBank s w r else none
    let inForce := fun i : HoldNo =>
      s.holds[i].window = w ∧ (s.holds[i].state = .opened ∨ s.holds[i].state = .copying)
    let broken := fun h : Hold =>
      if h.state = .opened then brokenHold s .drain h
      else { h with state := .broken, countdown := c.linger, reason := some .drain }
    let open_ := fun f : FillNo => s.fills[f].window = w ∧ s.fills[f].state ≠ .free
    let waits := fun f : FillNo => open_ f ∧ s.fills[f].state = .waiting
    let gone := fun f : FillNo =>
      open_ f ∧ s.fills[f].abandoned = false ∧ covers c.guardLen.toNat s.fills[f].coverage = false
    let going := fun f : FillNo => if waits f then activeFill s (target s.fills[f].record) s.fills[f] else s.fills[f]
    ∃ t, exec (.drainCountdownExpiry w) s = .next t ∧ holdsInForce t w = []
      ∧ (∀ f : FillNo, t.fills[f].window = w → t.fills[f].state ≠ .waiting)
      ∧ (t.windows[w].state = .off ∨ t.windows[w].state = .draining 0 true)
      ∧ (t.windows[w].state = .off ↔ fillsOf t w = [] ∧ ∀ e ∈ t.park, e.window ≠ w)
      ∧ (∀ i : HoldNo, let h := if inForce i then broken s.holds[i] else s.holds[i]
          t.holds[i] =
            if t.windows[w].state = .off ∧ h.window = w ∧ h.state = .broken then
              (if h.slot = none then .cleared else { h with leftService := true })
            else h)
      ∧ SlotsFollow s t
      ∧ (∀ f : FillNo, t.fills[f] =
          if gone f then (if s.fills[f].parked = 0 then .cleared s.fills[f].generation else { going f with abandoned := true })
          else going f)
      ∧ (∀ j, dirGet t.directory j =
          if c.mode ≠ .banked ∧ ∃ f, gone f ∧ c.dirIndex s.fills[f].record = j then
            { dirGet s.directory j with damaged := true }
          else dirGet s.directory j)
      ∧ t.park = s.park.map (fun e => match e.fill with
          | none => e
          | some ref => if waits ref.index then releasedBy s ⟨ref.index, s.fills[ref.index].generation⟩
              (target s.fills[ref.index].record) e else e)
      ∧ (∃ (hs : List HoldNo) (fs as : List FillNo), hs.Nodup ∧ fs.Nodup ∧ as.Nodup ∧ (∀ i, i ∈ hs ↔ inForce i)
          ∧ (∀ f, f ∈ fs ↔ open_ f) ∧ (∀ f, f ∈ as ↔ gone f)
          ∧ t.counters = (countTimes .fillsAbandoned w as.length (countTimes .holdsBroken w hs.length s)).counters
          ∧ ReportedAll ((as.map fun f => .of .fillAbandoned w s.fills[f].record s.fills[f].owner)
              ++ ⟨.drainForced, some w, none, none, none, .ofNat 16 (hs.length + fs.length)⟩
              :: (if t.windows[w].state = .off then [⟨.drainDone, some w, none, none, none, 0⟩] else [])) s t)
      ∧ (∀ v : WindowNo, v ≠ w → t.windows[v] = s.windows[v])
      ∧ t.windows[w] = { s.windows[w] with state := t.windows[w].state }
      ∧ (∀ m : Tag, t.lanes[m].reqs = s.lanes[m].reqs)
      ∧ t = { s with
          lanes := t.lanes, windows := t.windows, directory := t.directory, holds := t.holds, fills := t.fills,
          park := t.park, slots := t.slots, pendingSweeps := t.pendingSweeps, sweep := t.sweep, events := t.events,
          counters := t.counters, alertLow := t.alertLow, freeCount := t.freeCount }

/-- Tier 2, derived. ALERT_N follows its conditions: where it stands as the threshold and the age condition say, every step
but TICK leaves it so (R154). The step of a TICK leaves it so too, but where the tick has brought the age countdown to 0:
then it stands high until ALERT_AGE_EXPIRY, a step of its own (log 4), drives it low and changes nothing else (R154, R155).
With a latency other than 0, an unread record and the age countdown at 0, ALERT_AGE_EXPIRY always does. The premise on the
threshold is kept by every step (`ControlOk`). -/
def Obligations.AlertFollowsItsConditions : Prop :=
  (∀ (s t : State) (c : Instr) (cs : List Instr), ControlOk s → AlertFollows s → s.pending = c :: cs → step s = .next t →
      (c ≠ .tick → AlertFollows t)
        ∧ (¬ AlertFollows t → t.alertLow = false
          ∧ t.events.control.latency ≠ 0 ∧ t.events.queue ≠ [] ∧ t.events.age = 0))
    ∧ (∀ s : State, AlertFollows s ↔ (s.alertLow = true ↔ s.events.control.threshold ≤ s.events.queue.length
        ∨ (s.events.control.latency ≠ 0 ∧ s.events.queue ≠ [] ∧ s.events.age = 0)))
    ∧ ∀ s : State, s.events.control.latency ≠ 0 → s.events.queue ≠ [] → s.events.age = 0 →
        exec .alertAgeExpiry s = .next { s with alertLow := true }

/-- Tier 1, derived. SWEEP_START: the free engine takes the lowest-numbered pending window out of the set and starts its
sweep at record 0 with nothing counted (R141). -/
def Obligations.SweepStartsLowest : Prop :=
  ∀ (s : State) (w : WindowNo), s.sweep = none → hasBit s.pendingSweeps w = true →
    (∀ v : WindowNo, hasBit s.pendingSweeps v = true → w ≤ v) →
    exec .sweepStart s = .next { s with
      pendingSweeps := s.pendingSweeps &&& ~~~ BitVec.twoPow 16 w.val, sweep := some ⟨w, 0, 0, none⟩ }

/-- Tier 2, derived. SWEEP_VISIT: a FRESH entry loses FRESH; another becomes STALE and is counted, the first one by its
index; only that entry's flags change. The sweep ends after record N - 1, with STALE_SWEEP when it counted any (R41, R142,
R143). -/
def Obligations.SweepVisitMarks : Prop :=
  ∀ (s : State) (x : Sweep), s.Settled → dirWf s.directory → s.sweep = some x →
    let i := (s.cfg x.window).dirIndex x.next
    let e := dirGet s.directory i
    let y : Sweep := if e.fresh then ⟨x.window, x.next + 1, x.staleCount, x.firstStale⟩
      else ⟨x.window, x.next + 1, x.staleCount + 1, some (x.firstStale.getD x.next)⟩
    ∃ t, exec .sweepVisit s = .next t
      ∧ dirGet t.directory i = (if e.fresh then { e with fresh := false } else { e with stale := true })
      ∧ (∀ j, j ≠ i → dirGet t.directory j = dirGet s.directory j)
      ∧ (x.next + 1 < (s.cfg x.window).count.toNat → t.sweep = some y ∧ ReportedAll [] s t)
      ∧ ((s.cfg x.window).count.toNat ≤ x.next + 1 → t.sweep = none
          ∧ (if 0 < y.staleCount then
              Reported ⟨.staleSweep, some x.window, y.firstStale, none, none, .ofNat 16 y.staleCount⟩ s t
            else ReportedAll [] s t))
      ∧ t = { s with directory := t.directory, sweep := t.sweep, events := t.events, alertLow := t.alertLow }

/-- Tier 2, derived. DRAIN_COMPLETION of a DRAINING window with no hold in force, no open fill and no parked word: the
window is OFF and keeps its fields, its settled BROKEN entries are FREE and those with copy data outstanding are marked left
service, its sweep is cancelled, DRAIN_DONE is reported (R25, R65, R144, R173). -/
def Obligations.DrainCompletes : Prop :=
  ∀ (s : State) (w : WindowNo) (n : BitVec 16) (forced : Bool), s.windows[w].state = .draining n forced →
    holdsInForce s w = [] → fillsOf s w = [] → (∀ e ∈ s.park, e.window ≠ w) →
    ∃ t, exec (.drainCompletion w) s = .next t
      ∧ t.windows = s.windows.set w { s.windows[w] with state := .off }
      ∧ (∀ i : HoldNo, t.holds[i] =
          if s.holds[i].window = w ∧ s.holds[i].state = .broken then
            (if s.holds[i].slot = none then .cleared else { s.holds[i] with leftService := true })
          else s.holds[i])
      ∧ t.pendingSweeps = s.pendingSweeps &&& ~~~ BitVec.twoPow 16 w.val
      ∧ t.sweep = s.sweep.filter (fun x => decide (x.window ≠ w))
      ∧ Reported ⟨.drainDone, some w, none, none, none, 0⟩ s t
      ∧ (∀ m : Tag, t.lanes[m].reqs = s.lanes[m].reqs)
      ∧ t = { s with
          windows := t.windows, holds := t.holds, pendingSweeps := t.pendingSweeps, sweep := t.sweep,
          events := t.events, alertLow := t.alertLow, lanes := t.lanes }

/-! ### The management link (chapter 10) -/

/-- Tier 1, derived. The reference values of R162, and that a check byte makes the CRC of the whole 0. -/
def Obligations.CheckByteReference : Prop :=
  checkByte [0x01] = 0x07 ∧ checkByte [0x02] = 0x0E ∧ checkByte [0x5A] = 0x81 ∧ checkByte [0x7E] = 0x7D
    ∧ checkByte [0x31, 0x32, 0x33, 0x34, 0x35, 0x36, 0x37, 0x38, 0x39] = 0xF4
    ∧ checkByte [0x12, 0x07, 0x01] = 0x18 ∧ ∀ bs : List Byte, checkByte (bs ++ [checkByte bs]) = 0

/-- Tier 1, derived. CS_N's fall starts a frame; an abort, or a frame that ends with no byte, discards it: no command runs,
nothing is stored, the holder keeps what it held (R160). The bytes MISO carried and the count of free values are the model's
record (log 7, 8). -/
def Obligations.FrameStartAndAbort : Prop :=
  ∀ (s : State) (bytes : List Byte) (bits : Fin 8),
    (s.resetLow = false → s.link.csLow = false →
        exec .frameStart s = .next { s with link := { s.link with csLow := true, receiver := .receiving } })
      ∧ (FrameOpen s → (bytes = [] ∨ bits ≠ 0) → ∃ t, exec (.frameAbort bytes bits) s = .next t
          ∧ t = { s with link := ⟨false, .idle, s.link.holder, t.link.miso⟩, freeCount := t.freeCount })

/-- Tier 2, derived. The judgement of a frame: an unknown code, a wrong byte count or a wrong check byte stores its result
with the code and no data, and nothing but the link changes (R161, R163). -/
def Obligations.BadFramesStoreTheirResult : Prop :=
  ∀ (s : State) (rest : List Byte), FrameOpen s →
    (∀ code : Byte, code ∉ commandCodes → exec (.unknownCommand code rest) s =
        .next { s with link := linkAfter rest.length ⟨.unknownCommand, code, []⟩ })
      ∧ ∀ row ∈ linkCommands,
        (rest.length ≠ row.2.1 + 1 → exec (row.2.2 rest) s =
            .next { s with link := linkAfter rest.length ⟨.lengthError, row.1, []⟩ })
          ∧ (rest.length = row.2.1 + 1 → rest.getLast? ≠ some (checkByte (row.1 :: rest.dropLast)) →
            exec (row.2.2 rest) s = .next { s with link := linkAfter rest.length ⟨.checkFailed, row.1, []⟩ })

/-- Tier 2, derived. FETCH: bytes 0 and 1 carry 00h on MISO, then the held response (or NONE) with its check byte, then
00h; it leaves the holder EMPTY when byte 1 is 7Dh and every response byte has been clocked, and as it was otherwise; it
stores no result (R160, R164). -/
def Obligations.FetchClocksTheResponse : Prop :=
  ∀ (s : State) (more : List Byte), FrameOpen s →
    let r := (s.link.holder.getD ⟨.none, 0, []⟩).bytes
    (∃ t, exec (.fetch (0x7D :: more)) s = .next t
        ∧ t.link.miso = [0, 0] ++ (r ++ List.replicate more.length 0).take more.length
        ∧ t.link.holder = (if r.length ≤ more.length then none else s.link.holder)
        ∧ t.link.csLow = false ∧ t.link.receiver = .idle
        ∧ t = { s with link := t.link, freeCount := t.freeCount })
      ∧ ∀ b : Byte, b ≠ 0x7D → ∃ t, exec (.fetch (b :: more)) s = .next t ∧ t.link.holder = s.link.holder
        ∧ t = { s with link := t.link, freeCount := t.freeCount }

/-- Tier 1, derived. IDENTIFY, STATUS and READ_TIMEBASE answer ACCEPTED with their data and change nothing but the link
(R137, R166, R169). -/
def Obligations.ReadingCommandsAnswer : Prop :=
  ∀ s : State, FrameArrives s →
    exec (.identify (frameOf 0x01 [])) s =
        .next { s with link := linkAfter 1 (acceptedResponse 0x01 [0x4B, 0x36, 0x43, 0x18, 0x01]) }
      ∧ exec (.status (frameOf 0x02 [])) s = .next { s with link := linkAfter 1 (acceptedResponse 0x02 (statusBytes s)) }
      ∧ (statusBytes s).length = 50
      ∧ exec (.readTimebase (frameOf 0x39 [])) s =
        .next { s with link := linkAfter 1 (acceptedResponse 0x39
          ([byte s.timeBase.run.code, s.timeBase.prescaler.setWidth 8] ++ bytes4 s.timeBase.value)) }

/-- Tier 1, stated (R68). READ_HOLD returns every field of the entry; an index above 31 is REJECTED with BAD_INDEX; in
either case nothing but the link changes. A FREE entry is in its cleared form in every run (`TablesTidy`), and that form
reads with its absent fields as FFh and 0. -/
def Obligations.ReadHoldAnswers : Prop :=
  ∀ (s : State) (b : Byte), FrameArrives s →
    (∀ h : b.toNat < 32, exec (.readHold (frameOf 0x20 [b])) s =
        .next { s with link := linkAfter 2 (acceptedResponse 0x20 (holdBytes s.holds[b.toNat])) })
      ∧ (32 ≤ b.toNat → exec (.readHold (frameOf 0x20 [b])) s =
        .next { s with link := linkAfter 2 (rejectedResponse 0x20 .badIndex) })
      ∧ holdBytes .cleared = [0, 0, 0, 0, 0, 0, 0, 0, 0xFF, 0xFF, 0, 0, 0, 0, 0]

/-- Tier 2, derived. WRITE_WINDOW replaces all configured fields of an OFF window and nothing else; a LIVE or DRAINING
window is REJECTED with WINDOW_NOT_OFF, a window above 15 with BAD_INDEX, and a byte that names no value with BAD_ARGUMENT,
each without change. READ_WINDOW returns the entry's fields in any state. The 43 configured bytes carry every configured
field (R24, R167). -/
def Obligations.WindowWrittenAndRead : Prop :=
  ∀ (s : State) (w : WindowNo) (c : WinConfig) (b : Byte) (args : List Byte), FrameArrives s →
    (s.windows[w].state = .off → exec (.writeWindow (frameOf 0x11 (.ofNat 8 w.val :: configBytes c))) s =
        .next { s with
          windows := s.windows.set w { s.windows[w] with cfg := c }, link := linkAfter 45 (acceptedResponse 0x11 []) })
      ∧ (args.length = 43 → s.windows[w].state ≠ .off → exec (.writeWindow (frameOf 0x11 (.ofNat 8 w.val :: args))) s =
        .next { s with link := linkAfter 45 (rejectedResponse 0x11 .windowNotOff) })
      ∧ (args.length = 43 → 16 ≤ b.toNat → exec (.writeWindow (frameOf 0x11 (b :: args))) s =
        .next { s with link := linkAfter 45 (rejectedResponse 0x11 .badIndex) })
      ∧ (args.length = 43 → s.windows[w].state = .off → parseConfig (.ofNat 8 w.val :: args) = none →
        exec (.writeWindow (frameOf 0x11 (.ofNat 8 w.val :: args))) s =
          .next { s with link := linkAfter 45 (rejectedResponse 0x11 .badArgument) })
      ∧ exec (.readWindow (frameOf 0x10 [.ofNat 8 w.val])) s =
        .next { s with link := linkAfter 2 (acceptedResponse 0x10 (windowBytes s.windows[w])) }
      ∧ (configBytes c).length = 43 ∧ parseConfig (b :: configBytes c) = some c

/-- Tier 2, stated (R36). ENABLE_WINDOW: a window above 15 is REJECTED with BAD_INDEX and one in service with WINDOW_NOT_OFF;
an OFF window is refused with the first condition of Table 2-4 that holds, nothing but
the link changing; when none holds it becomes LIVE with its live fields loaded, the entries of its run cleared with the
initialize option, or kept but for an active bank it cannot have; entries outside the run stay. -/
def Obligations.EnableWindowOutcome : Prop :=
  ∀ (s : State) (w : WindowNo) (v b : Byte), FrameArrives s → dirWf s.directory →
    let frame := exec (.enableWindow (frameOf 0x12 [.ofNat 8 w.val, b])) s
    (16 ≤ v.toNat → exec (.enableWindow (frameOf 0x12 [v, b])) s =
        .next { s with link := linkAfter 3 (rejectedResponse 0x12 .badIndex) })
      ∧ (s.windows[w].state ≠ .off → frame = .next { s with link := linkAfter 3 (rejectedResponse 0x12 .windowNotOff) })
      ∧ (∀ why, s.windows[w].state = .off → validate s (s.cfg w) = some why →
        frame = .next { s with link := linkAfter 3 (rejectedResponse 0x12 why) })
      ∧ (s.windows[w].state = .off → validate s (s.cfg w) = none → ∃ t, frame = .next t
        ∧ t.windows = s.windows.set w ⟨.live, s.cfg w, (s.cfg w).firstDeadline, (s.cfg w).freshMode⟩
        ∧ (∀ i, dirGet t.directory i =
            if (s.cfg w).ownsEntry i then
              (if b ≠ 0 then .cleared
               else if (s.cfg w).allowsBank (dirGet s.directory i).activeBank then dirGet s.directory i
               else { dirGet s.directory i with activeBank := 0 })
            else dirGet s.directory i)
        ∧ (∀ m : Tag, t.lanes[m].reqs = s.lanes[m].reqs)
        ∧ t = { s with
            windows := t.windows, directory := t.directory, lanes := t.lanes,
            link := linkAfter 3 (acceptedResponse 0x12 []) })

/-- Tier 2, derived. Validation finds the first condition of Table 2-4 that holds, in the order listed, and a window passes
exactly when none holds (R33): each of the ten conditions, among them the ranges that pass the end of the address space, the
directory run beyond entry 4095, the overlaps with the used ranges and runs of the windows LIVE or DRAINING and, in BANKED,
of the window's own banks (R34), and the zero limits that are not allowed (R35). -/
def Obligations.ValidationOrder : Prop :=
  ∀ (s : State) (c : WinConfig),
    (∀ before why refused after, table24 s c = before ++ (why, refused) :: after →
        (validate s c = some why ↔ refused ∧ ∀ x ∈ before, ¬ x.2))
      ∧ (validate s c = none ↔ ∀ x ∈ table24 s c, ¬ x.2)

/-- Tier 2, stated (R171). DISABLE_WINDOW by the window's state and the force option: REJECTED when OFF; from LIVE it
becomes DRAINING with the drain limit loaded, and is forced, or tested for completion; a DRAINING one is forced when it was
not yet and the option is set, and is left alone otherwise. A LIVE window with nothing outstanding is OFF at once. -/
def Obligations.DisableWindowOutcome : Prop :=
  ∀ (s : State) (w : WindowNo) (b : Byte), FrameArrives s →
    let ok := linkAfter 3 (acceptedResponse 0x13 [])
    let draining : State := { s with
      windows := s.windows.set w { s.windows[w] with state := .draining (s.cfg w).drainLimit false } }
    let frame := exec (.disableWindow (frameOf 0x13 [.ofNat 8 w.val, b])) s
    (s.windows[w].state = .off → frame = .next { s with link := linkAfter 3 (rejectedResponse 0x13 .windowOff) })
      ∧ (s.windows[w].state = .live → b = 0 → frame = .next { drainTest w draining with link := ok })
      ∧ (s.windows[w].state = .live → b ≠ 0 → frame = .next { forceDrain w draining with link := ok })
      ∧ (∀ n forced, s.windows[w].state = .draining n forced → (b = 0 ∨ forced = true) →
          frame = .next { s with link := ok })
      ∧ (∀ n, s.windows[w].state = .draining n false → b ≠ 0 → frame = .next { forceDrain w s with link := ok })
      ∧ (s.windows[w].state = .live → b = 0 → holdsInForce s w = [] → fillsOf s w = [] → (∀ e ∈ s.park, e.window ≠ w) →
          ∃ t, frame = .next t ∧ t.windows[w].state = .off ∧ t.link = ok
            ∧ Reported ⟨.drainDone, some w, none, none, none, 0⟩ s t)
      ∧ ∀ v : Byte, 16 ≤ v.toNat → exec (.disableWindow (frameOf 0x13 [v, b])) s =
          .next { s with link := linkAfter 3 (rejectedResponse 0x13 .badIndex) }

/-- Tier 2, stated (R42). READ_RECORD returns the six fields of entry d + r in any window state; an r not less than the
stored N, a d + r above 4095 or a window above 15 is REJECTED with BAD_INDEX. Nothing but the link changes. -/
def Obligations.ReadRecordAnswers : Prop :=
  ∀ (s : State) (w : WindowNo) (r : BitVec 16) (b : Byte), FrameArrives s →
    let i := (s.cfg w).dirStart.toNat + r.toNat
    let frame := exec (.readRecord (frameOf 0x18 (.ofNat 8 w.val :: bytes2 r))) s
    (r.toNat < (s.cfg w).count.toNat → i ≤ 4095 →
        frame = .next { s with link := linkAfter 4 (acceptedResponse 0x18 (dirEntryBytes (dirGet s.directory i))) })
      ∧ ((s.cfg w).count.toNat ≤ r.toNat ∨ 4095 < i →
        frame = .next { s with link := linkAfter 4 (rejectedResponse 0x18 .badIndex) })
      ∧ (16 ≤ b.toNat → exec (.readRecord (frameOf 0x18 (b :: bytes2 r))) s =
        .next { s with link := linkAfter 4 (rejectedResponse 0x18 .badIndex) })

/-- Tier 2, derived. WRITE_RECORD on an OFF window, for an entry that exists and is in no run in service: FRESH and STALE
both set is REJECTED with BAD_FLAGS, an active bank above 2 or one the window cannot have with BAD_BANK; otherwise all six
fields of the entry are replaced and no other entry changes. A window or entry in service is REJECTED with WINDOW_NOT_OFF, a
window above 15 or an entry that does not exist with BAD_INDEX (R43). -/
def Obligations.WriteRecordOutcome : Prop :=
  ∀ (s : State) (w : WindowNo) (r : BitVec 16) (e : DirEntry) (b x : Byte), FrameArrives s → dirWf s.directory →
    let i := (s.cfg w).dirStart.toNat + r.toNat
    let frame := exec (.writeRecord (frameOf 0x19 (.ofNat 8 w.val :: (bytes2 r ++ dirEntryBytes e)))) s
    let refused := fun why => frame = .next { s with link := linkAfter 12 (rejectedResponse 0x19 why) }
    (16 ≤ b.toNat → exec (.writeRecord (frameOf 0x19 (b :: (bytes2 r ++ dirEntryBytes e)))) s =
        .next { s with link := linkAfter 12 (rejectedResponse 0x19 .badIndex) })
      ∧ (s.windows[w].state ≠ .off → refused .windowNotOff)
      ∧ (s.windows[w].state = .off → ((s.cfg w).count.toNat ≤ r.toNat ∨ 4095 < i) → refused .badIndex)
      ∧ (s.windows[w].state = .off → r.toNat < (s.cfg w).count.toNat → i ≤ 4095 →
        ((∃ v : WindowNo, s.windows[v].state ≠ .off ∧ (s.cfg v).ownsEntry i = true) → refused .windowNotOff)
          ∧ ((∀ v : WindowNo, s.windows[v].state ≠ .off → (s.cfg v).ownsEntry i = false) →
            (e.fresh = true → e.stale = true → refused .badFlags)
              ∧ ((e.fresh && e.stale) = false → 3 ≤ x.toNat →
                exec (.writeRecord (frameOf 0x19 (.ofNat 8 w.val :: (bytes2 r ++ x :: (dirEntryBytes e).drop 1)))) s =
                  .next { s with link := linkAfter 12 (rejectedResponse 0x19 .badBank) })
              ∧ ((e.fresh && e.stale) = false → (s.cfg w).allowsBank e.activeBank = false → refused .badBank)
              ∧ ((e.fresh && e.stale) = false → (s.cfg w).allowsBank e.activeBank = true →
                ∃ t, frame = .next t ∧ (∀ j, dirGet t.directory j = if j = i then e else dirGet s.directory j)
                  ∧ t = { s with
                      directory := t.directory, link := linkAfter 12 (acceptedResponse 0x19 []) })))

/-- Tier 2, derived. BREAK_HOLDS refuses a window above 15, a master byte that is neither a tag nor 10h, and an OFF window,
in that order; otherwise every OPEN or COPYING hold of the window and the named masters is BROKEN with reason MANAGEMENT and
its linger, an OPEN one without pin and slot, a COPYING one with its slot, each counted and without event; the answer is their
number; every entry of another window or master stands, and nothing is issued (R59, R62, R63). A fill changes only by becoming
ACTIVE from WAITING, when a hold on its record has left OPEN, and exactly its words are RELEASED; a WAITING fill of a SINGLE
window does so exactly when such a hold leaves no OPEN hold of another master on its record (R66, R79, R94). In BANKED its
target bank is one that is used, not active and SPARE afterwards; which of several is the model's choice with log 25 (DEDUCED),
for the order of the breaks is free (R114). -/
def Obligations.BreakHoldsOutcome : Prop :=
  ∀ (s : State) (w : WindowNo) (x b : Byte), FrameArrives s →
    let frame := exec (.breakHolds (frameOf 0x21 [.ofNat 8 w.val, x])) s
    let broken := fun i : HoldNo => s.holds[i].window = w ∧ (x = 0x10 ∨ s.holds[i].master.val = x.toNat)
      ∧ (s.holds[i].state = .opened ∨ s.holds[i].state = .copying)
    let is := (List.finRange 32).filter fun i => decide (broken i)
    (16 ≤ b.toNat → exec (.breakHolds (frameOf 0x21 [b, x])) s =
        .next { s with link := linkAfter 3 (rejectedResponse 0x21 .badIndex) })
      ∧ (16 < x.toNat → frame = .next { s with link := linkAfter 3 (rejectedResponse 0x21 .badArgument) })
      ∧ (x.toNat ≤ 16 → s.windows[w].state = .off →
        frame = .next { s with link := linkAfter 3 (rejectedResponse 0x21 .windowOff) })
      ∧ (x.toNat ≤ 16 → Live s w → ∃ t, frame = .next t
        ∧ (∀ i : HoldNo, t.holds[i] =
            if broken i then
              (if s.holds[i].state = .opened then brokenHold s .management s.holds[i]
               else { s.holds[i] with
                 state := .broken, countdown := (s.cfg w).linger, reason := some .management })
            else s.holds[i])
        ∧ SlotsFollow s t
        ∧ t.counters = (countTimes .holdsBroken w is.length s).counters
        ∧ t.link = linkAfter 3 (acceptedResponse 0x21 [.ofNat 8 is.length])
        ∧ (∀ f : FillNo, t.fills[f] = s.fills[f]
            ∨ (s.fills[f].state = .waiting
              ∧ (∃ i, broken i ∧ OpenOn s s.fills[f].window s.fills[f].record i)
              ∧ t.fills[f] = activeFill s t.fills[f].target s.fills[f]
              ∧ ((s.cfg w).mode ≠ .banked → t.fills[f].target = none)
              ∧ ((s.cfg w).mode = .banked →
                ∃ k, t.fills[f].target = some k ∧ Spare t s.fills[f].window s.fills[f].record k)))
        ∧ (∀ f r, (s.cfg w).mode = .single → openFill s w r = some f → s.fills[f].state = .waiting →
          (∃ i, broken i ∧ OpenOn s w r i) →
          (t.fills[f].state = .active ↔ ∀ i, OpenOn t w r i → s.holds[i].master = s.fills[f].owner))
        ∧ t.park = s.park.map (fun e => match e.fill with
            | none => e
            | some ref => if s.fills[ref.index].state = .waiting ∧ t.fills[ref.index].state = .active then
                releasedBy s ⟨ref.index, s.fills[ref.index].generation⟩ t.fills[ref.index].target e else e)
        ∧ (∀ m : Tag, t.lanes[m].reqs = s.lanes[m].reqs)
        ∧ t = { s with
            lanes := t.lanes, holds := t.holds, slots := t.slots, fills := t.fills, park := t.park,
            counters := t.counters, freeCount := t.freeCount, link := t.link })

/-- Tier 2, derived. READ_EVENTS with a count of 1 to 4 removes that many of the oldest records, or all there are, and
answers with their number and contents, oldest first; a head left in the queue reloads the age countdown; the lost count
stays. Another count is REJECTED with BAD_ARGUMENT and pops nothing (R153, R155). -/
def Obligations.ReadEventsPops : Prop :=
  ∀ (s : State) (n : Byte), FrameArrives s →
    (1 ≤ n.toNat → n.toNat ≤ 4 → ∃ t, exec (.readEvents (frameOf 0x28 [n])) s = .next t
        ∧ t.events = { s.events with
            queue := s.events.queue.drop n.toNat,
            age := if s.events.queue.length ≤ n.toNat then s.events.age else s.events.control.latency }
        ∧ t.alertLow = t.events.alertCondition
        ∧ t = { s with
            events := t.events, alertLow := t.alertLow,
            link := linkAfter 2 (acceptedResponse 0x28 (.ofNat 8 (s.events.queue.take n.toNat).length ::
              (s.events.queue.take n.toNat).flatMap eventBytes)) })
      ∧ (n.toNat = 0 ∨ 4 < n.toNat → exec (.readEvents (frameOf 0x28 [n])) s =
        .next { s with link := linkAfter 2 (rejectedResponse 0x28 .badArgument) })

/-- Tier 1, stated (R157). READ_COUNTERS returns the six counters of the named window, in any window state, and changes
nothing but the link; a byte above 15 is REJECTED with BAD_INDEX. CLEAR_COUNTERS sets the six counters of the named window,
or with 10h (ALL) of every window, to 0; another byte above 15 is REJECTED with BAD_INDEX and nothing is cleared. -/
def Obligations.CountersReadAndCleared : Prop :=
  ∀ (s : State) (w : WindowNo) (b : Byte), FrameArrives s →
    exec (.readCounters (frameOf 0x30 [.ofNat 8 w.val])) s =
        .next { s with link := linkAfter 2 (acceptedResponse 0x30
          (bytes4 s.counters[w].holdsOpened ++ bytes4 s.counters[w].holdsBroken ++ bytes4 s.counters[w].holdsDenied
            ++ bytes4 s.counters[w].fillsPublished ++ bytes4 s.counters[w].fillsAbandoned
            ++ bytes4 s.counters[w].writesParked)) }
      ∧ exec (.clearCounters (frameOf 0x31 [.ofNat 8 w.val])) s = .next { s with
        counters := s.counters.set w ⟨0, 0, 0, 0, 0, 0⟩, link := linkAfter 2 (acceptedResponse 0x31 []) }
      ∧ exec (.clearCounters (frameOf 0x31 [0x10])) s = .next { s with
        counters := .replicate 16 ⟨0, 0, 0, 0, 0, 0⟩, link := linkAfter 2 (acceptedResponse 0x31 []) }
      ∧ (16 < b.toNat → exec (.clearCounters (frameOf 0x31 [b])) s =
        .next { s with link := linkAfter 2 (rejectedResponse 0x31 .badIndex) })
      ∧ (16 ≤ b.toNat → exec (.readCounters (frameOf 0x30 [b])) s =
        .next { s with link := linkAfter 2 (rejectedResponse 0x30 .badIndex) })

/-- Tier 2, derived. SET_TIMEBASE sets run state and prescaler, and the value when the load byte is not 00h; no countdown
and no deadline changes. A run-state byte above 1 or a prescaler above 15 is REJECTED with BAD_ARGUMENT. The interval to the
next tick is outside the model (log 6; R137, R138, R139). -/
def Obligations.SetTimebaseOutcome : Prop :=
  ∀ (s : State) (run p load : Byte) (v : BitVec 32), FrameArrives s →
    let frame := exec (.setTimebase (frameOf 0x38 ([run, p, load] ++ bytes4 v))) s
    (run.toNat ≤ 1 → p.toNat ≤ 15 → frame = .next { s with
        timeBase := ⟨if load = 0 then s.timeBase.value else v, p.setWidth 4, if run = 0 then .stopped else .running⟩
        link := linkAfter 8 (acceptedResponse 0x38 []) })
      ∧ (1 < run.toNat ∨ 15 < p.toNat →
        frame = .next { s with link := linkAfter 8 (rejectedResponse 0x38 .badArgument) })

/-- Tier 2, derived. SET_EVENT_CONTROL replaces the stored-kinds set, threshold and latency, keeps the records, reloads the
age countdown of a queue that is not empty, and applies to ALERT_N at once; a threshold outside 1 to 64 or a bit for LOST
or for no kind is REJECTED with BAD_ARGUMENT (R150, R154, R155, R169). -/
def Obligations.SetEventControlOutcome : Prop :=
  ∀ (s : State) (b0 b1 b2 th : Byte) (latency : BitVec 16), FrameArrives s →
    let frame := exec (.setEventControl (frameOf 0x3A ([b0, b1, b2, th] ++ bytes2 latency))) s
    (b0.toNat < 4 → 1 ≤ th.toNat → th.toNat ≤ 64 → ∃ t, frame = .next t
        ∧ t.events = { s.events with
            control := ⟨(b0 ++ b1 ++ b2).setWidth 18, th.toNat, latency⟩,
            age := if s.events.queue = [] then s.events.age else latency }
        ∧ t.alertLow = t.events.alertCondition
        ∧ t = { s with
            events := t.events, alertLow := t.alertLow, link := linkAfter 7 (acceptedResponse 0x3A []) })
      ∧ (4 ≤ b0.toNat ∨ th.toNat = 0 ∨ 64 < th.toNat →
        frame = .next { s with link := linkAfter 7 (rejectedResponse 0x3A .badArgument) })

/-- Tier 2, derived. SOFT_RESET in one event: every window OFF with its fields kept; holds, fills (keeping generations) and
slots FREE; unissued copies discarded; every parked word RELEASED and without a fill, none discarded: a RELEASED one keeps
its address, a PARKED one gets its word's, in the face or, in BANKED, in its fill's target bank or, where the fill has none,
in the lowest bank that is not active (R90, R102, R107, R122); every copy in flight is marked orphaned (R135); sweeps, events
and counters cleared, event control and time base kept; the records of fills outside BANKED windows DAMAGED; the lanes keep
every request and the in-flight list every entry; and the ACCEPTED response is what the holder holds (R21, R26, R44, R69, R148,
R159, R170). -/
def Obligations.SoftResetOutcome : Prop :=
  ∀ s : State, FrameArrives s → dirWf s.directory →
    let bank := fun e : ParkEntry =>
      if (s.cfg e.window).mode = .banked then
        ((e.fill.bind fun ref => s.fills[ref.index].target).orElse fun _ => otherBank s e.window e.record)
      else none
    ∃ t, exec (.softReset (frameOf 0x5A [])) s = .next t
      ∧ (∀ w : WindowNo, t.windows[w] = { s.windows[w] with state := .off })
      ∧ (∀ i : HoldNo, t.holds[i] = .cleared) ∧ (∀ f : FillNo, t.fills[f] = .cleared s.fills[f].generation)
      ∧ (∀ k : SlotNo, t.slots[k] = .free) ∧ t.copies = []
      ∧ t.park = s.park.map (fun e => match e.condition with
          | .released _ => { e with fill := none }
          | .parked => { e with
              fill := none, condition := .released (recordWord (s.cfg e.window) (bank e) e.record e.offset) })
      ∧ t.inFlight = s.inFlight.map (fun x => match x.origin with
          | .copy k i w r m _ => ⟨x.req, .copy k i w r m true⟩
          | .laneRead _ _ _ => x
          | .laneWrite _ _ => x
          | .release _ _ _ _ _ _ => x)
      ∧ (∀ m : Tag, t.lanes[m].reqs = s.lanes[m].reqs)
      ∧ t.pendingSweeps = 0 ∧ t.sweep = none ∧ t.events.queue = [] ∧ t.events.lost = 0
      ∧ t.events.control = s.events.control ∧ (∀ w : WindowNo, t.counters[w] = ⟨0, 0, 0, 0, 0, 0⟩)
      ∧ (∀ j, dirGet t.directory j =
          if ∃ f : FillNo, s.fills[f].state ≠ .free ∧ (s.cfg s.fills[f].window).mode ≠ .banked
              ∧ (s.cfg s.fills[f].window).dirIndex s.fills[f].record = j then
            { dirGet s.directory j with damaged := true }
          else dirGet s.directory j)
      ∧ t.alertLow = false ∧ t.timeBase = s.timeBase ∧ t.lastIssueLane = s.lastIssueLane
      ∧ t.lastResponseLane = s.lastResponseLane ∧ t.responseGrant = s.responseGrant ∧ t.delivered = s.delivered
      ∧ t.link = linkAfter 1 (acceptedResponse 0x5A [])

/-! ### Events (chapter 9) -/

/-- Tier 2, stated (R151, R152). A report of a stored kind at the Event Unit: it merges into the newest unread record
exactly when its kind merges, the lost count is 0 and that record has its kind, window, record and master; else it is
appended, dropped as the first loss, appended behind LOST, or counted as one more loss, by the lost count and the free
places. A report of a kind that is not stored changes nothing (R150). -/
def Obligations.ReportsMergeAppendOrCount : Prop :=
  ∀ (s : State) (r : Report), (s.events.control.stores r.kind = false → report r s = s)
    ∧ (s.events.control.stores r.kind = true →
    let u := s.events
    let now := s.timeBase.value
    let merges := r.kind.merges = true ∧ u.lost = 0 ∧ ∃ e, u.queue.getLast? = some e ∧ e.kind = r.kind
      ∧ e.window = r.window ∧ e.record = r.record ∧ e.master = r.master
    let new : EventRecord := ⟨r.kind, r.window, r.record, r.master, r.resource, now, r.detail⟩
    let t := (report r s).events
    (merges → ∃ pre e, u.queue = pre ++ [e] ∧ t = { u with queue := pre ++
          [{ e with
            detail := if e.detail = 0xFFFF then e.detail else e.detail + 1,
            resource := if e.resource = r.resource then e.resource else some .both }] })
      ∧ (¬ merges → u.lost = 0 → u.queue.length < 64 →
        t = { u with queue := u.queue ++ [new], age := if u.queue = [] then u.control.latency else u.age })
      ∧ (¬ merges → u.lost = 0 → 64 ≤ u.queue.length → t = { u with lost := 1, lostStamp := some now })
      ∧ (u.lost ≠ 0 → u.queue.length + 2 ≤ 64 →
        t = { u with
          queue := u.queue ++ [⟨.lost, none, none, none, none, u.lostStamp.getD 0, u.lost⟩, new],
          age := if u.queue = [] then u.control.latency else u.age, lost := 0, lostStamp := none })
      ∧ (u.lost ≠ 0 → 64 < u.queue.length + 2 →
        t = { u with lost := if u.lost = 0xFFFF then u.lost else u.lost + 1 })
      ∧ report r s = { s with events := t, alertLow := t.alertCondition })

/-! ### What every step keeps -/

/-- Tier 1. The state after reset has every invariant below. -/
def Obligations.ResetIsSafe : Prop :=
  WithinCapacity State.reset ∧ DirectoryOk State.reset ∧ TablesTidy State.reset ∧ ControlOk State.reset
    ∧ AlertFollows State.reset ∧ Coherent State.reset ∧ ParkAccounted State.reset ∧ LeftoversFirst State.reset

/-- Tier 2. Every step keeps the capacities: lanes of 4, 8 in flight, 64 parked words, 64 events (R1, R16, R98); the Record
Directory canonical with FRESH and STALE apart (R41, log 22); the FREE entries of the Hold and Fill Tables in their
cleared form (R45, R70); and the alert threshold within 1 to 64 (R150). -/
def Obligations.TablesKept : Prop :=
  ∀ s t : State, step s = .next t →
    (WithinCapacity s → WithinCapacity t) ∧ (DirectoryOk s → DirectoryOk t) ∧ (TablesTidy s → TablesTidy t)
      ∧ (ControlOk s → ControlOk t)

/-- Tier 3. Every step keeps readers and producers apart: one hold for a master and record, one fill for a record, no OPEN
hold beside an ACTIVE fill of a SINGLE record, no ACTIVE fill in an active or pinned bank of a BANKED record (R46, R71, R96,
R112). -/
def Obligations.CoherenceKept : Prop := ∀ s t : State, Coherent s → step s = .next t → Coherent t

/-- Tier 3. Every step keeps the Park Queue's books: each parked word belongs to an open fill that counts it, PARKED while
that fill waits and RELEASED once it is ACTIVE (R76, R99, R101, R107). In coherent states every step keeps this too: while
words left by a soft reset wait, no hold outside SNAP windows is OPEN (R21, R107). -/
def Obligations.ParkBooksKept : Prop :=
  ∀ s t : State, ParkAccounted s → step s = .next t →
    ParkAccounted t ∧ (Coherent s → LeftoversFirst s → LeftoversFirst t)

/-- Tier 3. While a hold on a record of a SINGLE window is OPEN, no fill write and no released word of that record is issued
downstream: no step whose requests join the in-flight list adds one, for a hold that is OPEN before and after it (R96). A
fill write and a released word are known by the origin kept with the request (R17), which names their record; that no other
write of a lane reaches the record's guard words is the decoder's cut, which this statement does not speak of (R11). The
premises are the invariants above. -/
def Obligations.NoWriteUnderOpenSingleHold : Prop :=
  ∀ (s t : State) (new : List InFlight) (i : HoldNo), Coherent s → ParkAccounted s → LeftoversFirst s →
    step s = .next t → t.inFlight = s.inFlight ++ new → s.holds[i].state = .opened → t.holds[i].state = .opened →
    (s.cfg s.holds[i].window).mode = .single →
    ∀ x ∈ new, x.writesRecord s.holds[i].window s.holds[i].record = false
end

