-- ==== Sys2Proof/Laws/Tables.lean ====
section
/-! SUPPORT. What the operations of Machine/Tables.lean do: reading a table, finding entries, the directory's list, free
orders, round robin. -/

namespace Sys2Proof.Machine

/-! ### Tables -/

/-- Reading a table all of whose entries were changed; the index as `simp` writes it. -/
@[simp] theorem getElem_tableMap_nat {α β : Type} {n : Nat} (f : Fin n → α → β) (v : Vector α n) (i : Nat) (h : i < n) :
    (tableMap f v)[i] = f ⟨i, h⟩ v[i] := by
  simp [tableMap]

/-- Reading a table all of whose entries were changed. -/
theorem getElem_tableMap {α β : Type} {n : Nat} (f : Fin n → α → β) (v : Vector α n) (i : Fin n) :
    (tableMap f v)[i] = f i v[i] := by
  simp

/-- Reading a table after one entry has been set. -/
theorem getElem_set_fin {α : Type} {n : Nat} (v : Vector α n) (i j : Fin n) (x : α) :
    (v.set i x)[j] = if i = j then x else v[j] := by
  simp [Vector.getElem_set, Fin.ext_iff]

@[simp] theorem getElem_set_same {α : Type} {n : Nat} (v : Vector α n) (i : Fin n) (x : α) : (v.set i x)[i] = x := by
  simp

theorem getElem_set_other {α : Type} {n : Nat} (v : Vector α n) (i j : Fin n) (x : α) (h : i ≠ j) :
    (v.set i x)[j] = v[j] := by
  rw [getElem_set_fin, if_neg h]

@[simp] theorem getElem_replicate_fin {α : Type} {n : Nat} (x : α) (i : Fin n) : (Vector.replicate n x)[i] = x := by
  simp

theorem mem_tableAll {α : Type} {n : Nat} (p : α → Bool) (v : Vector α n) (i : Fin n) :
    i ∈ tableAll p v ↔ p v[i] = true := by
  simp [tableAll]

theorem tableAll_nodup {α : Type} {n : Nat} (p : α → Bool) (v : Vector α n) : (tableAll p v).Nodup :=
  (List.nodup_finRange n).filter _

theorem tableAll_isEmpty {α : Type} {n : Nat} (p : α → Bool) (v : Vector α n) :
    (tableAll p v).isEmpty = true ↔ ∀ i : Fin n, p v[i] = false := by
  simp [tableAll, List.isEmpty_iff, List.filter_eq_nil_iff]

/-- The entry found has the property. -/
theorem tableFind_holds {α : Type} {n : Nat} {p : α → Bool} {v : Vector α n} {i : Fin n} (h : tableFind p v = some i) :
    p v[i] = true := by
  simpa using List.find?_some h

/-- No entry is found only where none has the property. -/
theorem tableFind_none {α : Type} {n : Nat} {p : α → Bool} {v : Vector α n} :
    tableFind p v = none ↔ ∀ i : Fin n, p v[i] = false := by
  simp [tableFind, List.find?_eq_none]

/-- The entry found is the lowest-numbered one. -/
theorem tableFind_lowest {α : Type} {n : Nat} {p : α → Bool} {v : Vector α n} {i : Fin n} (h : tableFind p v = some i)
    (j : Fin n) (hj : p v[j] = true) : i ≤ j := by
  rw [tableFind, List.find?_eq_some_iff_append] at h
  obtain ⟨_, as, bs, hl, hno⟩ := h
  have hs : (List.finRange n).Pairwise (· ≤ ·) := List.pairwise_le_finRange n
  have hm : j ∈ as ++ i :: bs := hl ▸ List.mem_finRange j
  rw [hl, List.pairwise_append] at hs
  rcases List.mem_append.1 hm with hm | hm
  · have := hno j hm; rw [hj] at this; cases this
  · rcases List.mem_cons.1 hm with hm | hm
    · exact le_of_eq hm.symm
    · exact (List.pairwise_cons.1 hs.2.1).1 j hm

/-! ### The directory's list -/

theorem dirGet_of_lt {d : List (Nat × DirEntry)} {j : Nat} (h : ∀ p ∈ d, j < p.1) : dirGet d j = .cleared := by
  induction d with
  | nil => rfl
  | cons p rest ih =>
    have hp := h p (by simp)
    have hne : ¬ p.1 = j := by omega
    simp [dirGet, hne, ih fun q hq => h q (by simp [hq])]

/-- Indexes of a list after one entry has been put: the old ones and the new one. -/
theorem mem_dirPut {i : Nat} {e : DirEntry} {d : List (Nat × DirEntry)} {p : Nat × DirEntry} (h : p ∈ dirPut i e d) :
    p = (i, e) ∨ p ∈ d := by
  induction d with
  | nil => simp only [dirPut] at h; split at h <;> simp_all
  | cons q rest ih =>
    obtain ⟨k, x⟩ := q
    simp only [dirPut] at h
    split at h
    · split at h <;> simp_all
    · split at h
      · split at h <;> simp_all; tauto
      · simp only [List.mem_cons] at h ⊢
        rcases h with h | h
        · exact .inr (.inl h)
        · rcases ih h with h | h
          · exact .inl h
          · exact .inr (.inr h)

/-- Putting an entry keeps the canonical form. -/
theorem dirPut_wf {i : Nat} {e : DirEntry} {d : List (Nat × DirEntry)} (h : dirWf d) : dirWf (dirPut i e d) := by
  induction d with
  | nil => simp only [dirPut]; split <;> simp_all [dirWf]
  | cons q rest ih =>
    obtain ⟨k, x⟩ := q
    obtain ⟨hs, hc⟩ := h
    have hs' := List.pairwise_cons.1 hs
    have hrest : dirWf rest := ⟨hs'.2, fun p hp => hc p (by simp [hp])⟩
    simp only [dirPut]
    split
    · rename_i hik
      split
      · exact ⟨hs, hc⟩
      · rename_i he
        refine ⟨List.pairwise_cons.2 ⟨?_, hs⟩, ?_⟩
        · intro p hp
          rcases List.mem_cons.1 hp with rfl | hp
          · exact hik
          · exact lt_trans hik (hs'.1 p hp)
        · intro p hp
          rcases List.mem_cons.1 hp with rfl | hp
          · exact he
          · exact hc p hp
    · split
      · rename_i hik
        split
        · exact hrest
        · rename_i he
          refine ⟨List.pairwise_cons.2 ⟨fun p hp => hik ▸ hs'.1 p hp, hs'.2⟩, ?_⟩
          intro p hp
          rcases List.mem_cons.1 hp with rfl | hp
          · exact he
          · exact hc p (by simp [hp])
      · rename_i h1 h2
        have hw := ih hrest
        refine ⟨List.pairwise_cons.2 ⟨?_, hw.1⟩, ?_⟩
        · intro p hp
          rcases mem_dirPut hp with rfl | hp
          · simp only; omega
          · exact hs'.1 p hp
        · intro p hp
          rcases List.mem_cons.1 hp with rfl | hp
          · exact hc _ (by simp)
          · exact hw.2 p hp

/-- Reading a directory entry after one has been put. -/
theorem dirGet_dirPut {i j : Nat} {e : DirEntry} {d : List (Nat × DirEntry)} (h : dirWf d) :
    dirGet (dirPut i e d) j = if i = j then e else dirGet d j := by
  induction d with
  | nil =>
    simp only [dirPut]
    split
    · rename_i he; simp [dirGet, he]
    · simp [dirGet]
  | cons q rest ih =>
    obtain ⟨k, x⟩ := q
    obtain ⟨hs, hc⟩ := h
    have hs' := List.pairwise_cons.1 hs
    have hrest : dirWf rest := ⟨hs'.2, fun p hp => hc p (by simp [hp])⟩
    simp only [dirPut]
    split
    · rename_i hik
      split
      · rename_i he
        by_cases hij : i = j
        · subst hij
          have : dirGet ((k, x) :: rest) i = .cleared := by
            apply dirGet_of_lt
            intro p hp
            rcases List.mem_cons.1 hp with rfl | hp
            · exact hik
            · exact lt_trans hik (hs'.1 p hp)
          simp [this, he]
        · simp [hij]
      · simp [dirGet]
    · split
      · rename_i hik
        subst hik
        split
        · rename_i he
          by_cases hij : i = j
          · subst hij
            simp [dirGet_of_lt hs'.1, he]
          · simp [dirGet, hij]
        · simp only [dirGet]; split <;> rfl
      · rename_i h1 h2
        have hki : ¬ k = i := fun h => h2 h.symm
        simp only [dirGet, ih hrest]
        by_cases hkj : k = j
        · subst hkj; simp [h2]
        · simp [hkj]

/-- A change of every listed entry keeps the canonical form. -/
theorem dirMap_wf {f : Nat → DirEntry → DirEntry} {d : List (Nat × DirEntry)} (h : dirWf d) : dirWf (dirMap f d) := by
  refine ⟨?_, ?_⟩
  · have : (d.map fun (k, e) => (k, f k e)).Pairwise (fun a b => a.1 < b.1) := by
      rw [List.pairwise_map]; exact h.1
    exact this.sublist List.filter_sublist
  · intro p hp
    simpa using (List.mem_filter.1 hp).2

theorem filter_wf {p : Nat × DirEntry → Bool} {d : List (Nat × DirEntry)} (h : dirWf d) : dirWf (d.filter p) :=
  ⟨h.1.sublist List.filter_sublist, fun q hq => h.2 q (List.mem_filter.1 hq).1⟩

theorem dirWf_tail {q : Nat × DirEntry} {d : List (Nat × DirEntry)} (h : dirWf (q :: d)) : dirWf d :=
  ⟨(List.pairwise_cons.1 h.1).2, fun p hp => h.2 p (by simp [hp])⟩

/-- Reading after a change of every listed entry that keeps the cleared entry as it is. -/
theorem dirGet_dirMap {f : Nat → DirEntry → DirEntry} {d : List (Nat × DirEntry)} (h : dirWf d) (j : Nat)
    (hf : ∀ k, f k .cleared = .cleared) : dirGet (dirMap f d) j = f j (dirGet d j) := by
  induction d with
  | nil => simp [dirMap, dirGet, hf]
  | cons q rest ih =>
    obtain ⟨k, x⟩ := q
    have hs' := List.pairwise_cons.1 h.1
    have ih := ih (dirWf_tail h)
    have hlt : dirGet rest k = .cleared := dirGet_of_lt hs'.1
    simp only [dirMap, List.map_cons, List.filter_cons] at ih ⊢
    by_cases hx : f k x = .cleared
    · simp only [hx, ne_eq, not_true_eq_false, decide_false, Bool.false_eq_true, ↓reduceIte, ih, dirGet]
      by_cases hkj : k = j
      · subst hkj; simp [hlt, hf, hx]
      · simp [hkj]
    · simp only [ne_eq, hx, not_false_eq_true, decide_true, ↓reduceIte, dirGet, ih]
      by_cases hkj : k = j
      · subst hkj; simp
      · simp [hkj]

/-- Reading after some indexes have been removed. -/
theorem dirGet_filter {p : Nat → Bool} {d : List (Nat × DirEntry)} (h : dirWf d) (j : Nat) :
    dirGet (d.filter fun q => p q.1) j = if p j then dirGet d j else .cleared := by
  induction d with
  | nil => simp [dirGet]
  | cons q rest ih =>
    obtain ⟨k, x⟩ := q
    have hs' := List.pairwise_cons.1 h.1
    have ih := ih (dirWf_tail h)
    have hlt : dirGet rest k = .cleared := dirGet_of_lt hs'.1
    simp only [List.filter_cons]
    by_cases hp : p k = true
    · simp only [hp, ↓reduceIte, dirGet, ih]
      by_cases hkj : k = j
      · subst hkj; simp [hp]
      · simp [hkj]
    · simp only [hp, Bool.false_eq_true, ↓reduceIte, ih, dirGet]
      by_cases hkj : k = j
      · subst hkj; simp [hp]
      · simp [hkj]

/-! ### Free orders -/

theorem insertAt_perm {α : Type} (x : α) (k : Nat) (xs : List α) : (insertAt x k xs).Perm (x :: xs) := by
  have h : (xs.take k ++ x :: xs.drop k).Perm (x :: (xs.take k ++ xs.drop k)) := List.perm_middle
  rwa [List.take_append_drop] at h

/-- A free order has the same elements, each as often. -/
theorem freeOrder_perm {α : Type} (seed : Nat) (xs : List α) : (freeOrder seed xs).Perm xs := by
  induction xs with
  | nil => exact .refl _
  | cons x xs ih =>
    cases xs with
    | nil => exact .refl _
    | cons y rest => exact (insertAt_perm x _ _).trans (List.Perm.cons x ih)

theorem mem_freeOrder {α : Type} {seed : Nat} {xs : List α} {x : α} : x ∈ freeOrder seed xs ↔ x ∈ xs :=
  (freeOrder_perm seed xs).mem_iff

theorem freeOrder_nodup {α : Type} {seed : Nat} {xs : List α} (h : xs.Nodup) : (freeOrder seed xs).Nodup :=
  (freeOrder_perm seed xs).nodup_iff.2 h

@[simp] theorem freeOrder_nil {α : Type} (seed : Nat) : freeOrder seed ([] : List α) = [] := rfl

@[simp] theorem freeOrder_single {α : Type} (seed : Nat) (x : α) : freeOrder seed [x] = [x] := rfl

/-! ### Round robin -/

/-- Every lane has its turn. -/
theorem mem_roundRobin (last m : Tag) : m ∈ roundRobin last := by
  simp only [roundRobin, List.mem_map, List.mem_finRange, true_and]
  exact ⟨m - (last + 1), by abel⟩

end Sys2Proof.Machine
end

