-- ==== Sys2Proof/Laws/State.lean ====
section
/-! SUPPORT. One lemma per field per named update of the state, and reading a table back after an update. -/

namespace Sys2Proof.Machine

/-! `setLane` changes `lanes` only. -/

@[simp] theorem setLane_resetLow (m : Tag) (l : Lane) (s : State) : (s.setLane m l).resetLow = s.resetLow := rfl
@[simp] theorem setLane_lanes (m : Tag) (l : Lane) (s : State) : (s.setLane m l).lanes = s.lanes.set m l := rfl
@[simp] theorem setLane_lastIssueLane (m : Tag) (l : Lane) (s : State) : (s.setLane m l).lastIssueLane = s.lastIssueLane := rfl
@[simp] theorem setLane_lastResponseLane (m : Tag) (l : Lane) (s : State) : (s.setLane m l).lastResponseLane = s.lastResponseLane := rfl
@[simp] theorem setLane_responseGrant (m : Tag) (l : Lane) (s : State) : (s.setLane m l).responseGrant = s.responseGrant := rfl
@[simp] theorem setLane_inFlight (m : Tag) (l : Lane) (s : State) : (s.setLane m l).inFlight = s.inFlight := rfl
@[simp] theorem setLane_windows (m : Tag) (l : Lane) (s : State) : (s.setLane m l).windows = s.windows := rfl
@[simp] theorem setLane_directory (m : Tag) (l : Lane) (s : State) : (s.setLane m l).directory = s.directory := rfl
@[simp] theorem setLane_holds (m : Tag) (l : Lane) (s : State) : (s.setLane m l).holds = s.holds := rfl
@[simp] theorem setLane_fills (m : Tag) (l : Lane) (s : State) : (s.setLane m l).fills = s.fills := rfl
@[simp] theorem setLane_park (m : Tag) (l : Lane) (s : State) : (s.setLane m l).park = s.park := rfl
@[simp] theorem setLane_slots (m : Tag) (l : Lane) (s : State) : (s.setLane m l).slots = s.slots := rfl
@[simp] theorem setLane_copies (m : Tag) (l : Lane) (s : State) : (s.setLane m l).copies = s.copies := rfl
@[simp] theorem setLane_timeBase (m : Tag) (l : Lane) (s : State) : (s.setLane m l).timeBase = s.timeBase := rfl
@[simp] theorem setLane_pendingSweeps (m : Tag) (l : Lane) (s : State) : (s.setLane m l).pendingSweeps = s.pendingSweeps := rfl
@[simp] theorem setLane_sweep (m : Tag) (l : Lane) (s : State) : (s.setLane m l).sweep = s.sweep := rfl
@[simp] theorem setLane_events (m : Tag) (l : Lane) (s : State) : (s.setLane m l).events = s.events := rfl
@[simp] theorem setLane_counters (m : Tag) (l : Lane) (s : State) : (s.setLane m l).counters = s.counters := rfl
@[simp] theorem setLane_alertLow (m : Tag) (l : Lane) (s : State) : (s.setLane m l).alertLow = s.alertLow := rfl
@[simp] theorem setLane_link (m : Tag) (l : Lane) (s : State) : (s.setLane m l).link = s.link := rfl
@[simp] theorem setLane_delivered (m : Tag) (l : Lane) (s : State) : (s.setLane m l).delivered = s.delivered := rfl
@[simp] theorem setLane_freeCount (m : Tag) (l : Lane) (s : State) : (s.setLane m l).freeCount = s.freeCount := rfl
@[simp] theorem setLane_pending (m : Tag) (l : Lane) (s : State) : (s.setLane m l).pending = s.pending := rfl

/-! `setWindow` changes `windows` only. -/

@[simp] theorem setWindow_resetLow (w : WindowNo) (x : Window) (s : State) : (s.setWindow w x).resetLow = s.resetLow := rfl
@[simp] theorem setWindow_lanes (w : WindowNo) (x : Window) (s : State) : (s.setWindow w x).lanes = s.lanes := rfl
@[simp] theorem setWindow_lastIssueLane (w : WindowNo) (x : Window) (s : State) : (s.setWindow w x).lastIssueLane = s.lastIssueLane := rfl
@[simp] theorem setWindow_lastResponseLane (w : WindowNo) (x : Window) (s : State) : (s.setWindow w x).lastResponseLane = s.lastResponseLane := rfl
@[simp] theorem setWindow_responseGrant (w : WindowNo) (x : Window) (s : State) : (s.setWindow w x).responseGrant = s.responseGrant := rfl
@[simp] theorem setWindow_inFlight (w : WindowNo) (x : Window) (s : State) : (s.setWindow w x).inFlight = s.inFlight := rfl
@[simp] theorem setWindow_windows (w : WindowNo) (x : Window) (s : State) : (s.setWindow w x).windows = s.windows.set w x := rfl
@[simp] theorem setWindow_directory (w : WindowNo) (x : Window) (s : State) : (s.setWindow w x).directory = s.directory := rfl
@[simp] theorem setWindow_holds (w : WindowNo) (x : Window) (s : State) : (s.setWindow w x).holds = s.holds := rfl
@[simp] theorem setWindow_fills (w : WindowNo) (x : Window) (s : State) : (s.setWindow w x).fills = s.fills := rfl
@[simp] theorem setWindow_park (w : WindowNo) (x : Window) (s : State) : (s.setWindow w x).park = s.park := rfl
@[simp] theorem setWindow_slots (w : WindowNo) (x : Window) (s : State) : (s.setWindow w x).slots = s.slots := rfl
@[simp] theorem setWindow_copies (w : WindowNo) (x : Window) (s : State) : (s.setWindow w x).copies = s.copies := rfl
@[simp] theorem setWindow_timeBase (w : WindowNo) (x : Window) (s : State) : (s.setWindow w x).timeBase = s.timeBase := rfl
@[simp] theorem setWindow_pendingSweeps (w : WindowNo) (x : Window) (s : State) : (s.setWindow w x).pendingSweeps = s.pendingSweeps := rfl
@[simp] theorem setWindow_sweep (w : WindowNo) (x : Window) (s : State) : (s.setWindow w x).sweep = s.sweep := rfl
@[simp] theorem setWindow_events (w : WindowNo) (x : Window) (s : State) : (s.setWindow w x).events = s.events := rfl
@[simp] theorem setWindow_counters (w : WindowNo) (x : Window) (s : State) : (s.setWindow w x).counters = s.counters := rfl
@[simp] theorem setWindow_alertLow (w : WindowNo) (x : Window) (s : State) : (s.setWindow w x).alertLow = s.alertLow := rfl
@[simp] theorem setWindow_link (w : WindowNo) (x : Window) (s : State) : (s.setWindow w x).link = s.link := rfl
@[simp] theorem setWindow_delivered (w : WindowNo) (x : Window) (s : State) : (s.setWindow w x).delivered = s.delivered := rfl
@[simp] theorem setWindow_freeCount (w : WindowNo) (x : Window) (s : State) : (s.setWindow w x).freeCount = s.freeCount := rfl
@[simp] theorem setWindow_pending (w : WindowNo) (x : Window) (s : State) : (s.setWindow w x).pending = s.pending := rfl

/-! `setHold` changes `holds` only. -/

@[simp] theorem setHold_resetLow (i : HoldNo) (h : Hold) (s : State) : (s.setHold i h).resetLow = s.resetLow := rfl
@[simp] theorem setHold_lanes (i : HoldNo) (h : Hold) (s : State) : (s.setHold i h).lanes = s.lanes := rfl
@[simp] theorem setHold_lastIssueLane (i : HoldNo) (h : Hold) (s : State) : (s.setHold i h).lastIssueLane = s.lastIssueLane := rfl
@[simp] theorem setHold_lastResponseLane (i : HoldNo) (h : Hold) (s : State) : (s.setHold i h).lastResponseLane = s.lastResponseLane := rfl
@[simp] theorem setHold_responseGrant (i : HoldNo) (h : Hold) (s : State) : (s.setHold i h).responseGrant = s.responseGrant := rfl
@[simp] theorem setHold_inFlight (i : HoldNo) (h : Hold) (s : State) : (s.setHold i h).inFlight = s.inFlight := rfl
@[simp] theorem setHold_windows (i : HoldNo) (h : Hold) (s : State) : (s.setHold i h).windows = s.windows := rfl
@[simp] theorem setHold_directory (i : HoldNo) (h : Hold) (s : State) : (s.setHold i h).directory = s.directory := rfl
@[simp] theorem setHold_holds (i : HoldNo) (h : Hold) (s : State) : (s.setHold i h).holds = s.holds.set i h := rfl
@[simp] theorem setHold_fills (i : HoldNo) (h : Hold) (s : State) : (s.setHold i h).fills = s.fills := rfl
@[simp] theorem setHold_park (i : HoldNo) (h : Hold) (s : State) : (s.setHold i h).park = s.park := rfl
@[simp] theorem setHold_slots (i : HoldNo) (h : Hold) (s : State) : (s.setHold i h).slots = s.slots := rfl
@[simp] theorem setHold_copies (i : HoldNo) (h : Hold) (s : State) : (s.setHold i h).copies = s.copies := rfl
@[simp] theorem setHold_timeBase (i : HoldNo) (h : Hold) (s : State) : (s.setHold i h).timeBase = s.timeBase := rfl
@[simp] theorem setHold_pendingSweeps (i : HoldNo) (h : Hold) (s : State) : (s.setHold i h).pendingSweeps = s.pendingSweeps := rfl
@[simp] theorem setHold_sweep (i : HoldNo) (h : Hold) (s : State) : (s.setHold i h).sweep = s.sweep := rfl
@[simp] theorem setHold_events (i : HoldNo) (h : Hold) (s : State) : (s.setHold i h).events = s.events := rfl
@[simp] theorem setHold_counters (i : HoldNo) (h : Hold) (s : State) : (s.setHold i h).counters = s.counters := rfl
@[simp] theorem setHold_alertLow (i : HoldNo) (h : Hold) (s : State) : (s.setHold i h).alertLow = s.alertLow := rfl
@[simp] theorem setHold_link (i : HoldNo) (h : Hold) (s : State) : (s.setHold i h).link = s.link := rfl
@[simp] theorem setHold_delivered (i : HoldNo) (h : Hold) (s : State) : (s.setHold i h).delivered = s.delivered := rfl
@[simp] theorem setHold_freeCount (i : HoldNo) (h : Hold) (s : State) : (s.setHold i h).freeCount = s.freeCount := rfl
@[simp] theorem setHold_pending (i : HoldNo) (h : Hold) (s : State) : (s.setHold i h).pending = s.pending := rfl

/-! `setFill` changes `fills` only. -/

@[simp] theorem setFill_resetLow (f : FillNo) (x : Fill) (s : State) : (s.setFill f x).resetLow = s.resetLow := rfl
@[simp] theorem setFill_lanes (f : FillNo) (x : Fill) (s : State) : (s.setFill f x).lanes = s.lanes := rfl
@[simp] theorem setFill_lastIssueLane (f : FillNo) (x : Fill) (s : State) : (s.setFill f x).lastIssueLane = s.lastIssueLane := rfl
@[simp] theorem setFill_lastResponseLane (f : FillNo) (x : Fill) (s : State) : (s.setFill f x).lastResponseLane = s.lastResponseLane := rfl
@[simp] theorem setFill_responseGrant (f : FillNo) (x : Fill) (s : State) : (s.setFill f x).responseGrant = s.responseGrant := rfl
@[simp] theorem setFill_inFlight (f : FillNo) (x : Fill) (s : State) : (s.setFill f x).inFlight = s.inFlight := rfl
@[simp] theorem setFill_windows (f : FillNo) (x : Fill) (s : State) : (s.setFill f x).windows = s.windows := rfl
@[simp] theorem setFill_directory (f : FillNo) (x : Fill) (s : State) : (s.setFill f x).directory = s.directory := rfl
@[simp] theorem setFill_holds (f : FillNo) (x : Fill) (s : State) : (s.setFill f x).holds = s.holds := rfl
@[simp] theorem setFill_fills (f : FillNo) (x : Fill) (s : State) : (s.setFill f x).fills = s.fills.set f x := rfl
@[simp] theorem setFill_park (f : FillNo) (x : Fill) (s : State) : (s.setFill f x).park = s.park := rfl
@[simp] theorem setFill_slots (f : FillNo) (x : Fill) (s : State) : (s.setFill f x).slots = s.slots := rfl
@[simp] theorem setFill_copies (f : FillNo) (x : Fill) (s : State) : (s.setFill f x).copies = s.copies := rfl
@[simp] theorem setFill_timeBase (f : FillNo) (x : Fill) (s : State) : (s.setFill f x).timeBase = s.timeBase := rfl
@[simp] theorem setFill_pendingSweeps (f : FillNo) (x : Fill) (s : State) : (s.setFill f x).pendingSweeps = s.pendingSweeps := rfl
@[simp] theorem setFill_sweep (f : FillNo) (x : Fill) (s : State) : (s.setFill f x).sweep = s.sweep := rfl
@[simp] theorem setFill_events (f : FillNo) (x : Fill) (s : State) : (s.setFill f x).events = s.events := rfl
@[simp] theorem setFill_counters (f : FillNo) (x : Fill) (s : State) : (s.setFill f x).counters = s.counters := rfl
@[simp] theorem setFill_alertLow (f : FillNo) (x : Fill) (s : State) : (s.setFill f x).alertLow = s.alertLow := rfl
@[simp] theorem setFill_link (f : FillNo) (x : Fill) (s : State) : (s.setFill f x).link = s.link := rfl
@[simp] theorem setFill_delivered (f : FillNo) (x : Fill) (s : State) : (s.setFill f x).delivered = s.delivered := rfl
@[simp] theorem setFill_freeCount (f : FillNo) (x : Fill) (s : State) : (s.setFill f x).freeCount = s.freeCount := rfl
@[simp] theorem setFill_pending (f : FillNo) (x : Fill) (s : State) : (s.setFill f x).pending = s.pending := rfl

/-! `setSlot` changes `slots` only. -/

@[simp] theorem setSlot_resetLow (k : SlotNo) (x : Slot) (s : State) : (s.setSlot k x).resetLow = s.resetLow := rfl
@[simp] theorem setSlot_lanes (k : SlotNo) (x : Slot) (s : State) : (s.setSlot k x).lanes = s.lanes := rfl
@[simp] theorem setSlot_lastIssueLane (k : SlotNo) (x : Slot) (s : State) : (s.setSlot k x).lastIssueLane = s.lastIssueLane := rfl
@[simp] theorem setSlot_lastResponseLane (k : SlotNo) (x : Slot) (s : State) : (s.setSlot k x).lastResponseLane = s.lastResponseLane := rfl
@[simp] theorem setSlot_responseGrant (k : SlotNo) (x : Slot) (s : State) : (s.setSlot k x).responseGrant = s.responseGrant := rfl
@[simp] theorem setSlot_inFlight (k : SlotNo) (x : Slot) (s : State) : (s.setSlot k x).inFlight = s.inFlight := rfl
@[simp] theorem setSlot_windows (k : SlotNo) (x : Slot) (s : State) : (s.setSlot k x).windows = s.windows := rfl
@[simp] theorem setSlot_directory (k : SlotNo) (x : Slot) (s : State) : (s.setSlot k x).directory = s.directory := rfl
@[simp] theorem setSlot_holds (k : SlotNo) (x : Slot) (s : State) : (s.setSlot k x).holds = s.holds := rfl
@[simp] theorem setSlot_fills (k : SlotNo) (x : Slot) (s : State) : (s.setSlot k x).fills = s.fills := rfl
@[simp] theorem setSlot_park (k : SlotNo) (x : Slot) (s : State) : (s.setSlot k x).park = s.park := rfl
@[simp] theorem setSlot_slots (k : SlotNo) (x : Slot) (s : State) : (s.setSlot k x).slots = s.slots.set k x := rfl
@[simp] theorem setSlot_copies (k : SlotNo) (x : Slot) (s : State) : (s.setSlot k x).copies = s.copies := rfl
@[simp] theorem setSlot_timeBase (k : SlotNo) (x : Slot) (s : State) : (s.setSlot k x).timeBase = s.timeBase := rfl
@[simp] theorem setSlot_pendingSweeps (k : SlotNo) (x : Slot) (s : State) : (s.setSlot k x).pendingSweeps = s.pendingSweeps := rfl
@[simp] theorem setSlot_sweep (k : SlotNo) (x : Slot) (s : State) : (s.setSlot k x).sweep = s.sweep := rfl
@[simp] theorem setSlot_events (k : SlotNo) (x : Slot) (s : State) : (s.setSlot k x).events = s.events := rfl
@[simp] theorem setSlot_counters (k : SlotNo) (x : Slot) (s : State) : (s.setSlot k x).counters = s.counters := rfl
@[simp] theorem setSlot_alertLow (k : SlotNo) (x : Slot) (s : State) : (s.setSlot k x).alertLow = s.alertLow := rfl
@[simp] theorem setSlot_link (k : SlotNo) (x : Slot) (s : State) : (s.setSlot k x).link = s.link := rfl
@[simp] theorem setSlot_delivered (k : SlotNo) (x : Slot) (s : State) : (s.setSlot k x).delivered = s.delivered := rfl
@[simp] theorem setSlot_freeCount (k : SlotNo) (x : Slot) (s : State) : (s.setSlot k x).freeCount = s.freeCount := rfl
@[simp] theorem setSlot_pending (k : SlotNo) (x : Slot) (s : State) : (s.setSlot k x).pending = s.pending := rfl

/-! `setDir` changes `directory` only. -/

@[simp] theorem setDir_resetLow (i : Nat) (e : DirEntry) (s : State) : (s.setDir i e).resetLow = s.resetLow := rfl
@[simp] theorem setDir_lanes (i : Nat) (e : DirEntry) (s : State) : (s.setDir i e).lanes = s.lanes := rfl
@[simp] theorem setDir_lastIssueLane (i : Nat) (e : DirEntry) (s : State) : (s.setDir i e).lastIssueLane = s.lastIssueLane := rfl
@[simp] theorem setDir_lastResponseLane (i : Nat) (e : DirEntry) (s : State) : (s.setDir i e).lastResponseLane = s.lastResponseLane := rfl
@[simp] theorem setDir_responseGrant (i : Nat) (e : DirEntry) (s : State) : (s.setDir i e).responseGrant = s.responseGrant := rfl
@[simp] theorem setDir_inFlight (i : Nat) (e : DirEntry) (s : State) : (s.setDir i e).inFlight = s.inFlight := rfl
@[simp] theorem setDir_windows (i : Nat) (e : DirEntry) (s : State) : (s.setDir i e).windows = s.windows := rfl
@[simp] theorem setDir_directory (i : Nat) (e : DirEntry) (s : State) : (s.setDir i e).directory = dirPut i e s.directory := rfl
@[simp] theorem setDir_holds (i : Nat) (e : DirEntry) (s : State) : (s.setDir i e).holds = s.holds := rfl
@[simp] theorem setDir_fills (i : Nat) (e : DirEntry) (s : State) : (s.setDir i e).fills = s.fills := rfl
@[simp] theorem setDir_park (i : Nat) (e : DirEntry) (s : State) : (s.setDir i e).park = s.park := rfl
@[simp] theorem setDir_slots (i : Nat) (e : DirEntry) (s : State) : (s.setDir i e).slots = s.slots := rfl
@[simp] theorem setDir_copies (i : Nat) (e : DirEntry) (s : State) : (s.setDir i e).copies = s.copies := rfl
@[simp] theorem setDir_timeBase (i : Nat) (e : DirEntry) (s : State) : (s.setDir i e).timeBase = s.timeBase := rfl
@[simp] theorem setDir_pendingSweeps (i : Nat) (e : DirEntry) (s : State) : (s.setDir i e).pendingSweeps = s.pendingSweeps := rfl
@[simp] theorem setDir_sweep (i : Nat) (e : DirEntry) (s : State) : (s.setDir i e).sweep = s.sweep := rfl
@[simp] theorem setDir_events (i : Nat) (e : DirEntry) (s : State) : (s.setDir i e).events = s.events := rfl
@[simp] theorem setDir_counters (i : Nat) (e : DirEntry) (s : State) : (s.setDir i e).counters = s.counters := rfl
@[simp] theorem setDir_alertLow (i : Nat) (e : DirEntry) (s : State) : (s.setDir i e).alertLow = s.alertLow := rfl
@[simp] theorem setDir_link (i : Nat) (e : DirEntry) (s : State) : (s.setDir i e).link = s.link := rfl
@[simp] theorem setDir_delivered (i : Nat) (e : DirEntry) (s : State) : (s.setDir i e).delivered = s.delivered := rfl
@[simp] theorem setDir_freeCount (i : Nat) (e : DirEntry) (s : State) : (s.setDir i e).freeCount = s.freeCount := rfl
@[simp] theorem setDir_pending (i : Nat) (e : DirEntry) (s : State) : (s.setDir i e).pending = s.pending := rfl

/-! `drawn` changes `freeCount` only. -/

@[simp] theorem drawn_resetLow (s : State) : (s.drawn).resetLow = s.resetLow := rfl
@[simp] theorem drawn_lanes (s : State) : (s.drawn).lanes = s.lanes := rfl
@[simp] theorem drawn_lastIssueLane (s : State) : (s.drawn).lastIssueLane = s.lastIssueLane := rfl
@[simp] theorem drawn_lastResponseLane (s : State) : (s.drawn).lastResponseLane = s.lastResponseLane := rfl
@[simp] theorem drawn_responseGrant (s : State) : (s.drawn).responseGrant = s.responseGrant := rfl
@[simp] theorem drawn_inFlight (s : State) : (s.drawn).inFlight = s.inFlight := rfl
@[simp] theorem drawn_windows (s : State) : (s.drawn).windows = s.windows := rfl
@[simp] theorem drawn_directory (s : State) : (s.drawn).directory = s.directory := rfl
@[simp] theorem drawn_holds (s : State) : (s.drawn).holds = s.holds := rfl
@[simp] theorem drawn_fills (s : State) : (s.drawn).fills = s.fills := rfl
@[simp] theorem drawn_park (s : State) : (s.drawn).park = s.park := rfl
@[simp] theorem drawn_slots (s : State) : (s.drawn).slots = s.slots := rfl
@[simp] theorem drawn_copies (s : State) : (s.drawn).copies = s.copies := rfl
@[simp] theorem drawn_timeBase (s : State) : (s.drawn).timeBase = s.timeBase := rfl
@[simp] theorem drawn_pendingSweeps (s : State) : (s.drawn).pendingSweeps = s.pendingSweeps := rfl
@[simp] theorem drawn_sweep (s : State) : (s.drawn).sweep = s.sweep := rfl
@[simp] theorem drawn_events (s : State) : (s.drawn).events = s.events := rfl
@[simp] theorem drawn_counters (s : State) : (s.drawn).counters = s.counters := rfl
@[simp] theorem drawn_alertLow (s : State) : (s.drawn).alertLow = s.alertLow := rfl
@[simp] theorem drawn_link (s : State) : (s.drawn).link = s.link := rfl
@[simp] theorem drawn_delivered (s : State) : (s.drawn).delivered = s.delivered := rfl
@[simp] theorem drawn_freeCount (s : State) : (s.drawn).freeCount = s.freeCount + 1 := rfl
@[simp] theorem drawn_pending (s : State) : (s.drawn).pending = s.pending := rfl

/-! `issue` changes `inFlight` only. -/

@[simp] theorem issue_resetLow (x : InFlight) (s : State) : (issue x s).resetLow = s.resetLow := rfl
@[simp] theorem issue_lanes (x : InFlight) (s : State) : (issue x s).lanes = s.lanes := rfl
@[simp] theorem issue_lastIssueLane (x : InFlight) (s : State) : (issue x s).lastIssueLane = s.lastIssueLane := rfl
@[simp] theorem issue_lastResponseLane (x : InFlight) (s : State) : (issue x s).lastResponseLane = s.lastResponseLane := rfl
@[simp] theorem issue_responseGrant (x : InFlight) (s : State) : (issue x s).responseGrant = s.responseGrant := rfl
@[simp] theorem issue_inFlight (x : InFlight) (s : State) : (issue x s).inFlight = s.inFlight ++ [x] := rfl
@[simp] theorem issue_windows (x : InFlight) (s : State) : (issue x s).windows = s.windows := rfl
@[simp] theorem issue_directory (x : InFlight) (s : State) : (issue x s).directory = s.directory := rfl
@[simp] theorem issue_holds (x : InFlight) (s : State) : (issue x s).holds = s.holds := rfl
@[simp] theorem issue_fills (x : InFlight) (s : State) : (issue x s).fills = s.fills := rfl
@[simp] theorem issue_park (x : InFlight) (s : State) : (issue x s).park = s.park := rfl
@[simp] theorem issue_slots (x : InFlight) (s : State) : (issue x s).slots = s.slots := rfl
@[simp] theorem issue_copies (x : InFlight) (s : State) : (issue x s).copies = s.copies := rfl
@[simp] theorem issue_timeBase (x : InFlight) (s : State) : (issue x s).timeBase = s.timeBase := rfl
@[simp] theorem issue_pendingSweeps (x : InFlight) (s : State) : (issue x s).pendingSweeps = s.pendingSweeps := rfl
@[simp] theorem issue_sweep (x : InFlight) (s : State) : (issue x s).sweep = s.sweep := rfl
@[simp] theorem issue_events (x : InFlight) (s : State) : (issue x s).events = s.events := rfl
@[simp] theorem issue_counters (x : InFlight) (s : State) : (issue x s).counters = s.counters := rfl
@[simp] theorem issue_alertLow (x : InFlight) (s : State) : (issue x s).alertLow = s.alertLow := rfl
@[simp] theorem issue_link (x : InFlight) (s : State) : (issue x s).link = s.link := rfl
@[simp] theorem issue_delivered (x : InFlight) (s : State) : (issue x s).delivered = s.delivered := rfl
@[simp] theorem issue_freeCount (x : InFlight) (s : State) : (issue x s).freeCount = s.freeCount := rfl
@[simp] theorem issue_pending (x : InFlight) (s : State) : (issue x s).pending = s.pending := rfl

/-! `store` changes `link` only. -/

@[simp] theorem store_resetLow (r : Response) (s : State) : (store r s).resetLow = s.resetLow := rfl
@[simp] theorem store_lanes (r : Response) (s : State) : (store r s).lanes = s.lanes := rfl
@[simp] theorem store_lastIssueLane (r : Response) (s : State) : (store r s).lastIssueLane = s.lastIssueLane := rfl
@[simp] theorem store_lastResponseLane (r : Response) (s : State) : (store r s).lastResponseLane = s.lastResponseLane := rfl
@[simp] theorem store_responseGrant (r : Response) (s : State) : (store r s).responseGrant = s.responseGrant := rfl
@[simp] theorem store_inFlight (r : Response) (s : State) : (store r s).inFlight = s.inFlight := rfl
@[simp] theorem store_windows (r : Response) (s : State) : (store r s).windows = s.windows := rfl
@[simp] theorem store_directory (r : Response) (s : State) : (store r s).directory = s.directory := rfl
@[simp] theorem store_holds (r : Response) (s : State) : (store r s).holds = s.holds := rfl
@[simp] theorem store_fills (r : Response) (s : State) : (store r s).fills = s.fills := rfl
@[simp] theorem store_park (r : Response) (s : State) : (store r s).park = s.park := rfl
@[simp] theorem store_slots (r : Response) (s : State) : (store r s).slots = s.slots := rfl
@[simp] theorem store_copies (r : Response) (s : State) : (store r s).copies = s.copies := rfl
@[simp] theorem store_timeBase (r : Response) (s : State) : (store r s).timeBase = s.timeBase := rfl
@[simp] theorem store_pendingSweeps (r : Response) (s : State) : (store r s).pendingSweeps = s.pendingSweeps := rfl
@[simp] theorem store_sweep (r : Response) (s : State) : (store r s).sweep = s.sweep := rfl
@[simp] theorem store_events (r : Response) (s : State) : (store r s).events = s.events := rfl
@[simp] theorem store_counters (r : Response) (s : State) : (store r s).counters = s.counters := rfl
@[simp] theorem store_alertLow (r : Response) (s : State) : (store r s).alertLow = s.alertLow := rfl
@[simp] theorem store_link (r : Response) (s : State) : (store r s).link = { s.link with holder := some r } := rfl
@[simp] theorem store_delivered (r : Response) (s : State) : (store r s).delivered = s.delivered := rfl
@[simp] theorem store_freeCount (r : Response) (s : State) : (store r s).freeCount = s.freeCount := rfl
@[simp] theorem store_pending (r : Response) (s : State) : (store r s).pending = s.pending := rfl

/-! `endFrame` changes `link` only. -/

@[simp] theorem endFrame_resetLow (miso : List Byte) (s : State) : (endFrame miso s).resetLow = s.resetLow := rfl
@[simp] theorem endFrame_lanes (miso : List Byte) (s : State) : (endFrame miso s).lanes = s.lanes := rfl
@[simp] theorem endFrame_lastIssueLane (miso : List Byte) (s : State) : (endFrame miso s).lastIssueLane = s.lastIssueLane := rfl
@[simp] theorem endFrame_lastResponseLane (miso : List Byte) (s : State) : (endFrame miso s).lastResponseLane = s.lastResponseLane := rfl
@[simp] theorem endFrame_responseGrant (miso : List Byte) (s : State) : (endFrame miso s).responseGrant = s.responseGrant := rfl
@[simp] theorem endFrame_inFlight (miso : List Byte) (s : State) : (endFrame miso s).inFlight = s.inFlight := rfl
@[simp] theorem endFrame_windows (miso : List Byte) (s : State) : (endFrame miso s).windows = s.windows := rfl
@[simp] theorem endFrame_directory (miso : List Byte) (s : State) : (endFrame miso s).directory = s.directory := rfl
@[simp] theorem endFrame_holds (miso : List Byte) (s : State) : (endFrame miso s).holds = s.holds := rfl
@[simp] theorem endFrame_fills (miso : List Byte) (s : State) : (endFrame miso s).fills = s.fills := rfl
@[simp] theorem endFrame_park (miso : List Byte) (s : State) : (endFrame miso s).park = s.park := rfl
@[simp] theorem endFrame_slots (miso : List Byte) (s : State) : (endFrame miso s).slots = s.slots := rfl
@[simp] theorem endFrame_copies (miso : List Byte) (s : State) : (endFrame miso s).copies = s.copies := rfl
@[simp] theorem endFrame_timeBase (miso : List Byte) (s : State) : (endFrame miso s).timeBase = s.timeBase := rfl
@[simp] theorem endFrame_pendingSweeps (miso : List Byte) (s : State) : (endFrame miso s).pendingSweeps = s.pendingSweeps := rfl
@[simp] theorem endFrame_sweep (miso : List Byte) (s : State) : (endFrame miso s).sweep = s.sweep := rfl
@[simp] theorem endFrame_events (miso : List Byte) (s : State) : (endFrame miso s).events = s.events := rfl
@[simp] theorem endFrame_counters (miso : List Byte) (s : State) : (endFrame miso s).counters = s.counters := rfl
@[simp] theorem endFrame_alertLow (miso : List Byte) (s : State) : (endFrame miso s).alertLow = s.alertLow := rfl
@[simp] theorem endFrame_link (miso : List Byte) (s : State) : (endFrame miso s).link = { s.link with csLow := false, receiver := .idle, miso := miso } := rfl
@[simp] theorem endFrame_delivered (miso : List Byte) (s : State) : (endFrame miso s).delivered = s.delivered := rfl
@[simp] theorem endFrame_freeCount (miso : List Byte) (s : State) : (endFrame miso s).freeCount = s.freeCount := rfl
@[simp] theorem endFrame_pending (miso : List Byte) (s : State) : (endFrame miso s).pending = s.pending := rfl

/-! `reofferWhen` changes `lanes` only. -/

@[simp] theorem reofferWhen_resetLow (p : Stall → Bool) (s : State) : (reofferWhen p s).resetLow = s.resetLow := rfl
@[simp] theorem reofferWhen_lanes (p : Stall → Bool) (s : State) : (reofferWhen p s).lanes = tableMap (fun _ l => l.reoffer p) s.lanes := rfl
@[simp] theorem reofferWhen_lastIssueLane (p : Stall → Bool) (s : State) : (reofferWhen p s).lastIssueLane = s.lastIssueLane := rfl
@[simp] theorem reofferWhen_lastResponseLane (p : Stall → Bool) (s : State) : (reofferWhen p s).lastResponseLane = s.lastResponseLane := rfl
@[simp] theorem reofferWhen_responseGrant (p : Stall → Bool) (s : State) : (reofferWhen p s).responseGrant = s.responseGrant := rfl
@[simp] theorem reofferWhen_inFlight (p : Stall → Bool) (s : State) : (reofferWhen p s).inFlight = s.inFlight := rfl
@[simp] theorem reofferWhen_windows (p : Stall → Bool) (s : State) : (reofferWhen p s).windows = s.windows := rfl
@[simp] theorem reofferWhen_directory (p : Stall → Bool) (s : State) : (reofferWhen p s).directory = s.directory := rfl
@[simp] theorem reofferWhen_holds (p : Stall → Bool) (s : State) : (reofferWhen p s).holds = s.holds := rfl
@[simp] theorem reofferWhen_fills (p : Stall → Bool) (s : State) : (reofferWhen p s).fills = s.fills := rfl
@[simp] theorem reofferWhen_park (p : Stall → Bool) (s : State) : (reofferWhen p s).park = s.park := rfl
@[simp] theorem reofferWhen_slots (p : Stall → Bool) (s : State) : (reofferWhen p s).slots = s.slots := rfl
@[simp] theorem reofferWhen_copies (p : Stall → Bool) (s : State) : (reofferWhen p s).copies = s.copies := rfl
@[simp] theorem reofferWhen_timeBase (p : Stall → Bool) (s : State) : (reofferWhen p s).timeBase = s.timeBase := rfl
@[simp] theorem reofferWhen_pendingSweeps (p : Stall → Bool) (s : State) : (reofferWhen p s).pendingSweeps = s.pendingSweeps := rfl
@[simp] theorem reofferWhen_sweep (p : Stall → Bool) (s : State) : (reofferWhen p s).sweep = s.sweep := rfl
@[simp] theorem reofferWhen_events (p : Stall → Bool) (s : State) : (reofferWhen p s).events = s.events := rfl
@[simp] theorem reofferWhen_counters (p : Stall → Bool) (s : State) : (reofferWhen p s).counters = s.counters := rfl
@[simp] theorem reofferWhen_alertLow (p : Stall → Bool) (s : State) : (reofferWhen p s).alertLow = s.alertLow := rfl
@[simp] theorem reofferWhen_link (p : Stall → Bool) (s : State) : (reofferWhen p s).link = s.link := rfl
@[simp] theorem reofferWhen_delivered (p : Stall → Bool) (s : State) : (reofferWhen p s).delivered = s.delivered := rfl
@[simp] theorem reofferWhen_freeCount (p : Stall → Bool) (s : State) : (reofferWhen p s).freeCount = s.freeCount := rfl
@[simp] theorem reofferWhen_pending (p : Stall → Bool) (s : State) : (reofferWhen p s).pending = s.pending := rfl

/-! `driveAlert` changes `alertLow` only. -/

@[simp] theorem driveAlert_resetLow (s : State) : (driveAlert s).resetLow = s.resetLow := rfl
@[simp] theorem driveAlert_lanes (s : State) : (driveAlert s).lanes = s.lanes := rfl
@[simp] theorem driveAlert_lastIssueLane (s : State) : (driveAlert s).lastIssueLane = s.lastIssueLane := rfl
@[simp] theorem driveAlert_lastResponseLane (s : State) : (driveAlert s).lastResponseLane = s.lastResponseLane := rfl
@[simp] theorem driveAlert_responseGrant (s : State) : (driveAlert s).responseGrant = s.responseGrant := rfl
@[simp] theorem driveAlert_inFlight (s : State) : (driveAlert s).inFlight = s.inFlight := rfl
@[simp] theorem driveAlert_windows (s : State) : (driveAlert s).windows = s.windows := rfl
@[simp] theorem driveAlert_directory (s : State) : (driveAlert s).directory = s.directory := rfl
@[simp] theorem driveAlert_holds (s : State) : (driveAlert s).holds = s.holds := rfl
@[simp] theorem driveAlert_fills (s : State) : (driveAlert s).fills = s.fills := rfl
@[simp] theorem driveAlert_park (s : State) : (driveAlert s).park = s.park := rfl
@[simp] theorem driveAlert_slots (s : State) : (driveAlert s).slots = s.slots := rfl
@[simp] theorem driveAlert_copies (s : State) : (driveAlert s).copies = s.copies := rfl
@[simp] theorem driveAlert_timeBase (s : State) : (driveAlert s).timeBase = s.timeBase := rfl
@[simp] theorem driveAlert_pendingSweeps (s : State) : (driveAlert s).pendingSweeps = s.pendingSweeps := rfl
@[simp] theorem driveAlert_sweep (s : State) : (driveAlert s).sweep = s.sweep := rfl
@[simp] theorem driveAlert_events (s : State) : (driveAlert s).events = s.events := rfl
@[simp] theorem driveAlert_counters (s : State) : (driveAlert s).counters = s.counters := rfl
@[simp] theorem driveAlert_alertLow (s : State) : (driveAlert s).alertLow = s.events.alertCondition := rfl
@[simp] theorem driveAlert_link (s : State) : (driveAlert s).link = s.link := rfl
@[simp] theorem driveAlert_delivered (s : State) : (driveAlert s).delivered = s.delivered := rfl
@[simp] theorem driveAlert_freeCount (s : State) : (driveAlert s).freeCount = s.freeCount := rfl
@[simp] theorem driveAlert_pending (s : State) : (driveAlert s).pending = s.pending := rfl

/-! `count` changes `counters` only. -/

@[simp] theorem count_resetLow (n : CounterName) (w : WindowNo) (s : State) : (count n w s).resetLow = s.resetLow := rfl
@[simp] theorem count_lanes (n : CounterName) (w : WindowNo) (s : State) : (count n w s).lanes = s.lanes := rfl
@[simp] theorem count_lastIssueLane (n : CounterName) (w : WindowNo) (s : State) : (count n w s).lastIssueLane = s.lastIssueLane := rfl
@[simp] theorem count_lastResponseLane (n : CounterName) (w : WindowNo) (s : State) : (count n w s).lastResponseLane = s.lastResponseLane := rfl
@[simp] theorem count_responseGrant (n : CounterName) (w : WindowNo) (s : State) : (count n w s).responseGrant = s.responseGrant := rfl
@[simp] theorem count_inFlight (n : CounterName) (w : WindowNo) (s : State) : (count n w s).inFlight = s.inFlight := rfl
@[simp] theorem count_windows (n : CounterName) (w : WindowNo) (s : State) : (count n w s).windows = s.windows := rfl
@[simp] theorem count_directory (n : CounterName) (w : WindowNo) (s : State) : (count n w s).directory = s.directory := rfl
@[simp] theorem count_holds (n : CounterName) (w : WindowNo) (s : State) : (count n w s).holds = s.holds := rfl
@[simp] theorem count_fills (n : CounterName) (w : WindowNo) (s : State) : (count n w s).fills = s.fills := rfl
@[simp] theorem count_park (n : CounterName) (w : WindowNo) (s : State) : (count n w s).park = s.park := rfl
@[simp] theorem count_slots (n : CounterName) (w : WindowNo) (s : State) : (count n w s).slots = s.slots := rfl
@[simp] theorem count_copies (n : CounterName) (w : WindowNo) (s : State) : (count n w s).copies = s.copies := rfl
@[simp] theorem count_timeBase (n : CounterName) (w : WindowNo) (s : State) : (count n w s).timeBase = s.timeBase := rfl
@[simp] theorem count_pendingSweeps (n : CounterName) (w : WindowNo) (s : State) : (count n w s).pendingSweeps = s.pendingSweeps := rfl
@[simp] theorem count_sweep (n : CounterName) (w : WindowNo) (s : State) : (count n w s).sweep = s.sweep := rfl
@[simp] theorem count_events (n : CounterName) (w : WindowNo) (s : State) : (count n w s).events = s.events := rfl
@[simp] theorem count_counters (n : CounterName) (w : WindowNo) (s : State) : (count n w s).counters = s.counters.set w (s.counters[w].bump n) := rfl
@[simp] theorem count_alertLow (n : CounterName) (w : WindowNo) (s : State) : (count n w s).alertLow = s.alertLow := rfl
@[simp] theorem count_link (n : CounterName) (w : WindowNo) (s : State) : (count n w s).link = s.link := rfl
@[simp] theorem count_delivered (n : CounterName) (w : WindowNo) (s : State) : (count n w s).delivered = s.delivered := rfl
@[simp] theorem count_freeCount (n : CounterName) (w : WindowNo) (s : State) : (count n w s).freeCount = s.freeCount := rfl
@[simp] theorem count_pending (n : CounterName) (w : WindowNo) (s : State) : (count n w s).pending = s.pending := rfl

/-! `setPhase` changes `lanes` only. -/

@[simp] theorem setPhase_resetLow (m : Tag) (ph : HeadPhase) (s : State) : (setPhase m ph s).resetLow = s.resetLow := rfl
@[simp] theorem setPhase_lanes (m : Tag) (ph : HeadPhase) (s : State) : (setPhase m ph s).lanes = s.lanes.set m { s.lanes[m] with phase := ph } := rfl
@[simp] theorem setPhase_lastIssueLane (m : Tag) (ph : HeadPhase) (s : State) : (setPhase m ph s).lastIssueLane = s.lastIssueLane := rfl
@[simp] theorem setPhase_lastResponseLane (m : Tag) (ph : HeadPhase) (s : State) : (setPhase m ph s).lastResponseLane = s.lastResponseLane := rfl
@[simp] theorem setPhase_responseGrant (m : Tag) (ph : HeadPhase) (s : State) : (setPhase m ph s).responseGrant = s.responseGrant := rfl
@[simp] theorem setPhase_inFlight (m : Tag) (ph : HeadPhase) (s : State) : (setPhase m ph s).inFlight = s.inFlight := rfl
@[simp] theorem setPhase_windows (m : Tag) (ph : HeadPhase) (s : State) : (setPhase m ph s).windows = s.windows := rfl
@[simp] theorem setPhase_directory (m : Tag) (ph : HeadPhase) (s : State) : (setPhase m ph s).directory = s.directory := rfl
@[simp] theorem setPhase_holds (m : Tag) (ph : HeadPhase) (s : State) : (setPhase m ph s).holds = s.holds := rfl
@[simp] theorem setPhase_fills (m : Tag) (ph : HeadPhase) (s : State) : (setPhase m ph s).fills = s.fills := rfl
@[simp] theorem setPhase_park (m : Tag) (ph : HeadPhase) (s : State) : (setPhase m ph s).park = s.park := rfl
@[simp] theorem setPhase_slots (m : Tag) (ph : HeadPhase) (s : State) : (setPhase m ph s).slots = s.slots := rfl
@[simp] theorem setPhase_copies (m : Tag) (ph : HeadPhase) (s : State) : (setPhase m ph s).copies = s.copies := rfl
@[simp] theorem setPhase_timeBase (m : Tag) (ph : HeadPhase) (s : State) : (setPhase m ph s).timeBase = s.timeBase := rfl
@[simp] theorem setPhase_pendingSweeps (m : Tag) (ph : HeadPhase) (s : State) : (setPhase m ph s).pendingSweeps = s.pendingSweeps := rfl
@[simp] theorem setPhase_sweep (m : Tag) (ph : HeadPhase) (s : State) : (setPhase m ph s).sweep = s.sweep := rfl
@[simp] theorem setPhase_events (m : Tag) (ph : HeadPhase) (s : State) : (setPhase m ph s).events = s.events := rfl
@[simp] theorem setPhase_counters (m : Tag) (ph : HeadPhase) (s : State) : (setPhase m ph s).counters = s.counters := rfl
@[simp] theorem setPhase_alertLow (m : Tag) (ph : HeadPhase) (s : State) : (setPhase m ph s).alertLow = s.alertLow := rfl
@[simp] theorem setPhase_link (m : Tag) (ph : HeadPhase) (s : State) : (setPhase m ph s).link = s.link := rfl
@[simp] theorem setPhase_delivered (m : Tag) (ph : HeadPhase) (s : State) : (setPhase m ph s).delivered = s.delivered := rfl
@[simp] theorem setPhase_freeCount (m : Tag) (ph : HeadPhase) (s : State) : (setPhase m ph s).freeCount = s.freeCount := rfl
@[simp] theorem setPhase_pending (m : Tag) (ph : HeadPhase) (s : State) : (setPhase m ph s).pending = s.pending := rfl

/-! `fillFreed` changes `lanes` only. -/

@[simp] theorem fillFreed_resetLow (w : WindowNo) (r : Nat) (s : State) : (fillFreed w r s).resetLow = s.resetLow := rfl
@[simp] theorem fillFreed_lanes (w : WindowNo) (r : Nat) (s : State) : (fillFreed w r s).lanes = tableMap (fun _ l => l.reoffer (Stall.endsWithFill w r)) s.lanes := rfl
@[simp] theorem fillFreed_lastIssueLane (w : WindowNo) (r : Nat) (s : State) : (fillFreed w r s).lastIssueLane = s.lastIssueLane := rfl
@[simp] theorem fillFreed_lastResponseLane (w : WindowNo) (r : Nat) (s : State) : (fillFreed w r s).lastResponseLane = s.lastResponseLane := rfl
@[simp] theorem fillFreed_responseGrant (w : WindowNo) (r : Nat) (s : State) : (fillFreed w r s).responseGrant = s.responseGrant := rfl
@[simp] theorem fillFreed_inFlight (w : WindowNo) (r : Nat) (s : State) : (fillFreed w r s).inFlight = s.inFlight := rfl
@[simp] theorem fillFreed_windows (w : WindowNo) (r : Nat) (s : State) : (fillFreed w r s).windows = s.windows := rfl
@[simp] theorem fillFreed_directory (w : WindowNo) (r : Nat) (s : State) : (fillFreed w r s).directory = s.directory := rfl
@[simp] theorem fillFreed_holds (w : WindowNo) (r : Nat) (s : State) : (fillFreed w r s).holds = s.holds := rfl
@[simp] theorem fillFreed_fills (w : WindowNo) (r : Nat) (s : State) : (fillFreed w r s).fills = s.fills := rfl
@[simp] theorem fillFreed_park (w : WindowNo) (r : Nat) (s : State) : (fillFreed w r s).park = s.park := rfl
@[simp] theorem fillFreed_slots (w : WindowNo) (r : Nat) (s : State) : (fillFreed w r s).slots = s.slots := rfl
@[simp] theorem fillFreed_copies (w : WindowNo) (r : Nat) (s : State) : (fillFreed w r s).copies = s.copies := rfl
@[simp] theorem fillFreed_timeBase (w : WindowNo) (r : Nat) (s : State) : (fillFreed w r s).timeBase = s.timeBase := rfl
@[simp] theorem fillFreed_pendingSweeps (w : WindowNo) (r : Nat) (s : State) : (fillFreed w r s).pendingSweeps = s.pendingSweeps := rfl
@[simp] theorem fillFreed_sweep (w : WindowNo) (r : Nat) (s : State) : (fillFreed w r s).sweep = s.sweep := rfl
@[simp] theorem fillFreed_events (w : WindowNo) (r : Nat) (s : State) : (fillFreed w r s).events = s.events := rfl
@[simp] theorem fillFreed_counters (w : WindowNo) (r : Nat) (s : State) : (fillFreed w r s).counters = s.counters := rfl
@[simp] theorem fillFreed_alertLow (w : WindowNo) (r : Nat) (s : State) : (fillFreed w r s).alertLow = s.alertLow := rfl
@[simp] theorem fillFreed_link (w : WindowNo) (r : Nat) (s : State) : (fillFreed w r s).link = s.link := rfl
@[simp] theorem fillFreed_delivered (w : WindowNo) (r : Nat) (s : State) : (fillFreed w r s).delivered = s.delivered := rfl
@[simp] theorem fillFreed_freeCount (w : WindowNo) (r : Nat) (s : State) : (fillFreed w r s).freeCount = s.freeCount := rfl
@[simp] theorem fillFreed_pending (w : WindowNo) (r : Nat) (s : State) : (fillFreed w r s).pending = s.pending := rfl

end Sys2Proof.Machine
end

