-- ==== Sys2Proof/Laws/Writes.lean ====
section
/-! SUPPORT. What each shared operation writes: one equation per operation, which says that every other field of the
state is as it was. A field's own lemma is its projection: `congrArg State.park (report_writes r s)`. -/

namespace Sys2Proof.Machine

theorem report_writes (r : Report) (s : State) :
    report r s = { s with events := (report r s).events, alertLow := (report r s).alertLow } := by
  unfold report; split <;> rfl

theorem countTimes_writes (n : CounterName) (w : WindowNo) (k : Nat) (s : State) :
    countTimes n w k s = { s with counters := (countTimes n w k s).counters } := by
  induction k generalizing s with
  | zero => rfl
  | succ k ih => simp only [countTimes]; rw [ih]; rfl

theorem grantResponse_writes (s : State) :
    grantResponse s = { s with responseGrant := (grantResponse s).responseGrant } := by
  unfold grantResponse; split <;> rfl

theorem takeWords_writes (m : Tag) (fates : List WordState) (s : State) :
    takeWords m fates s = { s with lanes := (takeWords m fates s).lanes, responseGrant := (takeWords m fates s).responseGrant } := by
  simp only [takeWords]; rw [grantResponse_writes]; rfl

theorem placeWords_writes (p : LanePos) (fate : List WordState → List WordState) (s : State) :
    placeWords p fate s = { s with lanes := (placeWords p fate s).lanes, responseGrant := (placeWords p fate s).responseGrant } := by
  simp only [placeWords]; rw [grantResponse_writes]; rfl

theorem recut_writes (old : Vector Window 16) (s : State) :
    recut old s = { s with lanes := (recut old s).lanes } := by
  rfl

theorem activateFill_writes (f : FillNo) (target : Option Bank) (s : State) :
    activateFill f target s = { s with lanes := (activateFill f target s).lanes, fills := (activateFill f target s).fills, park := (activateFill f target s).park } := by
  rfl

theorem tryActivate_writes (w : WindowNo) (r : Nat) (s : State) :
    tryActivate w r s = { s with lanes := (tryActivate w r s).lanes, fills := (tryActivate w r s).fills, park := (tryActivate w r s).park } := by
  unfold tryActivate; split
  · rfl
  · split
    · split <;> rfl
    · rfl

theorem markDamaged_writes (i : Nat) (s : State) :
    markDamaged i s = { s with directory := (markDamaged i s).directory } := by
  rfl

theorem freeFillEntry_writes (f : FillNo) (s : State) :
    freeFillEntry f s = { s with lanes := (freeFillEntry f s).lanes, fills := (freeFillEntry f s).fills } := by
  rfl

theorem publish_writes (f : FillNo) (s : State) :
    publish f s = { s with lanes := (publish f s).lanes, directory := (publish f s).directory, fills := (publish f s).fills, events := (publish f s).events, counters := (publish f s).counters, alertLow := (publish f s).alertLow } := by
  simp only [publish]; rw [report_writes]; rfl

theorem abandonFill_writes (f : FillNo) (s : State) :
    abandonFill f s = { s with lanes := (abandonFill f s).lanes, directory := (abandonFill f s).directory, fills := (abandonFill f s).fills, events := (abandonFill f s).events, counters := (abandonFill f s).counters, alertLow := (abandonFill f s).alertLow } := by
  simp only [abandonFill]; split <;> split <;> (try simp only [freeFillEntry]) <;> rw [report_writes] <;> rfl

theorem fillIssued_writes (f : FillNo) (s : State) :
    fillIssued f s = { s with lanes := (fillIssued f s).lanes, directory := (fillIssued f s).directory, fills := (fillIssued f s).fills, events := (fillIssued f s).events, counters := (fillIssued f s).counters, alertLow := (fillIssued f s).alertLow } := by
  simp only [fillIssued]; split
  · split
    · rfl
    · split
      · rw [publish_writes]
      · rfl
  · rfl

theorem allocateFill_writes (f : FillNo) (st : FillState) (m : Tag) (w : WindowNo) (r : Nat) (target : Option Bank) (s : State) :
    allocateFill f st m w r target s = { s with fills := (allocateFill f st m w r target s).fills } := by
  rfl

theorem countCoverage_writes (f : FillNo) (a : Nat) (ws : List WriteWord) (s : State) :
    countCoverage f a ws s = { s with fills := (countCoverage f a ws s).fills } := by
  rfl

theorem parkWords_writes (f : FillNo) (m : Tag) (g : GuardSpan) (ws : List WriteWord) (s : State) :
    parkWords f m g ws s = { s with fills := (parkWords f m g ws s).fills, park := (parkWords f m g ws s).park, counters := (parkWords f m g ws s).counters } := by
  simp only [parkWords]; rw [countTimes_writes]; rfl

theorem fillWriteFaulted_writes (i : Nat) (ref : Option FillRef) (s : State) :
    fillWriteFaulted i ref s = { s with directory := (fillWriteFaulted i ref s).directory, fills := (fillWriteFaulted i ref s).fills } := by
  unfold fillWriteFaulted; split
  · rfl
  · dsimp only; split <;> rfl

theorem releaseSlot_writes (k : Option SlotNo) (s : State) :
    releaseSlot k s = { s with slots := (releaseSlot k s).slots } := by
  unfold releaseSlot; split <;> rfl

theorem leftOpen_writes (w : WindowNo) (r : Nat) (s : State) :
    leftOpen w r s = { s with lanes := (leftOpen w r s).lanes, fills := (leftOpen w r s).fills, park := (leftOpen w r s).park } := by
  unfold leftOpen; rw [tryActivate_writes]; rfl

theorem copyMoved_writes (w : WindowNo) (r : Nat) (s : State) :
    copyMoved w r s = { s with lanes := (copyMoved w r s).lanes } := by
  rfl

theorem closeHold_writes (i : HoldNo) (s : State) :
    closeHold i s = { s with lanes := (closeHold i s).lanes, holds := (closeHold i s).holds, fills := (closeHold i s).fills, park := (closeHold i s).park, slots := (closeHold i s).slots } := by
  simp only [closeHold]; rw [leftOpen_writes, releaseSlot_writes]; rfl

theorem surrender_writes (m : Tag) (w : WindowNo) (r : Nat) (s : State) :
    surrender m w r s = { s with lanes := (surrender m w r s).lanes, holds := (surrender m w r s).holds, fills := (surrender m w r s).fills, park := (surrender m w r s).park, slots := (surrender m w r s).slots } := by
  unfold surrender; split
  · rfl
  · split
    · rw [closeHold_writes]
    · split <;> rfl
    · rfl
    · rfl

theorem coverHold_writes (i : HoldNo) (a n : Nat) (s : State) :
    coverHold i a n s = { s with lanes := (coverHold i a n s).lanes, holds := (coverHold i a n s).holds, fills := (coverHold i a n s).fills, park := (coverHold i a n s).park, slots := (coverHold i a n s).slots } := by
  simp only [coverHold]; split
  · split
    · rw [closeHold_writes]; rfl
    · rfl
    · rfl
    · rfl
  · rfl

theorem loadHold_writes (i : HoldNo) (st : HoldState) (m : Tag) (w : WindowNo) (r : Nat) (pin : Option Bank) (slot : Option SlotNo) (s : State) :
    loadHold i st m w r pin slot s = { s with holds := (loadHold i st m w r pin slot s).holds, counters := (loadHold i st m w r pin slot s).counters } := by
  rfl

theorem breakReport_writes (reason : BreakReason) (h : Hold) (s : State) :
    breakReport reason h s = { s with events := (breakReport reason h s).events, alertLow := (breakReport reason h s).alertLow } := by
  unfold breakReport; split
  · rw [report_writes]
  · rw [report_writes]
  · rfl
  · rfl

theorem breakEntry_writes (reason : BreakReason) (i : HoldNo) (s : State) :
    breakEntry reason i s = { s with holds := (breakEntry reason i s).holds, slots := (breakEntry reason i s).slots, events := (breakEntry reason i s).events, counters := (breakEntry reason i s).counters, alertLow := (breakEntry reason i s).alertLow } := by
  simp only [breakEntry]; split
  · rw [breakReport_writes, releaseSlot_writes]; rfl
  · rfl
  · rfl
  · rfl

theorem afterBreak_writes (h : Hold) (s : State) :
    afterBreak h s = { s with lanes := (afterBreak h s).lanes, fills := (afterBreak h s).fills, park := (afterBreak h s).park } := by
  unfold afterBreak; split
  · rw [leftOpen_writes]
  · rfl
  · rfl
  · rfl

theorem breakHold_writes (reason : BreakReason) (i : HoldNo) (s : State) :
    breakHold reason i s = { s with lanes := (breakHold reason i s).lanes, holds := (breakHold reason i s).holds, fills := (breakHold reason i s).fills, park := (breakHold reason i s).park, slots := (breakHold reason i s).slots, events := (breakHold reason i s).events, counters := (breakHold reason i s).counters, alertLow := (breakHold reason i s).alertLow } := by
  unfold breakHold; rw [afterBreak_writes, breakEntry_writes]

theorem breakAll_writes (reason : BreakReason) (is : List HoldNo) (s : State) :
    breakAll reason is s = { s with lanes := (breakAll reason is s).lanes, holds := (breakAll reason is s).holds, fills := (breakAll reason is s).fills, park := (breakAll reason is s).park, slots := (breakAll reason is s).slots, events := (breakAll reason is s).events, counters := (breakAll reason is s).counters, alertLow := (breakAll reason is s).alertLow } := by
  induction is generalizing s with
  | nil => rfl
  | cons i is ih => simp only [breakAll]; rw [ih, breakHold_writes]

theorem cancelSweep_writes (w : WindowNo) (s : State) :
    cancelSweep w s = { s with pendingSweeps := (cancelSweep w s).pendingSweeps, sweep := (cancelSweep w s).sweep } := by
  rfl

theorem completeDrain_writes (w : WindowNo) (s : State) :
    completeDrain w s = { s with lanes := (completeDrain w s).lanes, windows := (completeDrain w s).windows, holds := (completeDrain w s).holds, pendingSweeps := (completeDrain w s).pendingSweeps, sweep := (completeDrain w s).sweep, events := (completeDrain w s).events, alertLow := (completeDrain w s).alertLow } := by
  simp only [completeDrain]; rw [recut_writes, report_writes]; rfl

theorem drainTest_writes (w : WindowNo) (s : State) :
    drainTest w s = { s with lanes := (drainTest w s).lanes, windows := (drainTest w s).windows, holds := (drainTest w s).holds, pendingSweeps := (drainTest w s).pendingSweeps, sweep := (drainTest w s).sweep, events := (drainTest w s).events, alertLow := (drainTest w s).alertLow } := by
  unfold drainTest; split
  · rw [completeDrain_writes]
  · rfl

theorem breakForDrain_writes (is : List HoldNo) (s : State) :
    breakForDrain is s = { s with holds := (breakForDrain is s).holds, slots := (breakForDrain is s).slots, events := (breakForDrain is s).events, counters := (breakForDrain is s).counters, alertLow := (breakForDrain is s).alertLow } := by
  induction is generalizing s with
  | nil => rfl
  | cons i is ih => simp only [breakForDrain]; rw [ih, breakEntry_writes]

theorem activateFills_writes (fs : List FillNo) (s : State) :
    activateFills fs s = { s with lanes := (activateFills fs s).lanes, fills := (activateFills fs s).fills, park := (activateFills fs s).park } := by
  induction fs generalizing s with
  | nil => rfl
  | cons f fs ih => simp only [activateFills]; rw [ih, tryActivate_writes]

theorem abandonIncomplete_writes (fs : List FillNo) (s : State) :
    abandonIncomplete fs s = { s with lanes := (abandonIncomplete fs s).lanes, directory := (abandonIncomplete fs s).directory, fills := (abandonIncomplete fs s).fills, events := (abandonIncomplete fs s).events, counters := (abandonIncomplete fs s).counters, alertLow := (abandonIncomplete fs s).alertLow } := by
  induction fs generalizing s with
  | nil => rfl
  | cons f fs ih =>
    simp only [abandonIncomplete]; rw [ih]; split
    · rw [abandonFill_writes]
    · rfl

theorem forceDrain_writes (w : WindowNo) (s : State) :
    forceDrain w s = { s with lanes := (forceDrain w s).lanes, windows := (forceDrain w s).windows, directory := (forceDrain w s).directory, holds := (forceDrain w s).holds, fills := (forceDrain w s).fills, park := (forceDrain w s).park, slots := (forceDrain w s).slots, pendingSweeps := (forceDrain w s).pendingSweeps, sweep := (forceDrain w s).sweep, events := (forceDrain w s).events, counters := (forceDrain w s).counters, alertLow := (forceDrain w s).alertLow, freeCount := (forceDrain w s).freeCount } := by
  simp only [forceDrain]; rw [drainTest_writes, report_writes, abandonIncomplete_writes, activateFills_writes]
  simp only [reofferWhen]; rw [breakForDrain_writes]; rfl

theorem refuseSegment_writes (m : Tag) (n : Nat) (event : Option Report) (s : State) :
    refuseSegment m n event s = { s with lanes := (refuseSegment m n event s).lanes, responseGrant := (refuseSegment m n event s).responseGrant, events := (refuseSegment m n event s).events, alertLow := (refuseSegment m n event s).alertLow } := by
  simp only [refuseSegment]; split
  · rw [takeWords_writes]
  · rw [report_writes, takeWords_writes]

theorem serveSegment_writes (m : Tag) (i : HoldNo) (g : GuardSpan) (s : State) :
    serveSegment m i g s = { s with lanes := (serveSegment m i g s).lanes, responseGrant := (serveSegment m i g s).responseGrant, windows := (serveSegment m i g s).windows, holds := (serveSegment m i g s).holds, fills := (serveSegment m i g s).fills, park := (serveSegment m i g s).park, slots := (serveSegment m i g s).slots, pendingSweeps := (serveSegment m i g s).pendingSweeps, sweep := (serveSegment m i g s).sweep, events := (serveSegment m i g s).events, alertLow := (serveSegment m i g s).alertLow } := by
  simp only [serveSegment]; rw [drainTest_writes, coverHold_writes, takeWords_writes]

theorem bindSegment_writes (m : Tag) (i : HoldNo) (k : SlotNo) (g : GuardSpan) (s : State) :
    bindSegment m i k g s = { s with lanes := (bindSegment m i k g s).lanes, holds := (bindSegment m i k g s).holds, slots := (bindSegment m i k g s).slots, copies := (bindSegment m i k g s).copies, counters := (bindSegment m i k g s).counters } := by
  rfl

theorem parkSegment_writes (m : Tag) (f : FillNo) (g : GuardSpan) (ws : List WriteWord) (s : State) :
    parkSegment m f g ws s = { s with lanes := (parkSegment m f g ws s).lanes, responseGrant := (parkSegment m f g ws s).responseGrant, fills := (parkSegment m f g ws s).fills, park := (parkSegment m f g ws s).park, counters := (parkSegment m f g ws s).counters } := by
  simp only [parkSegment]; rw [parkWords_writes, takeWords_writes]

theorem parkOpeningSegment_writes (m : Tag) (f : FillNo) (g : GuardSpan) (ws : List WriteWord) (s : State) :
    parkOpeningSegment m f g ws s = { s with lanes := (parkOpeningSegment m f g ws s).lanes, responseGrant := (parkOpeningSegment m f g ws s).responseGrant, holds := (parkOpeningSegment m f g ws s).holds, fills := (parkOpeningSegment m f g ws s).fills, park := (parkOpeningSegment m f g ws s).park, slots := (parkOpeningSegment m f g ws s).slots, counters := (parkOpeningSegment m f g ws s).counters } := by
  simp only [parkOpeningSegment]; rw [parkSegment_writes, allocateFill_writes, surrender_writes]

theorem stallForFill_writes (m : Tag) (g : GuardSpan) (s : State) :
    stallForFill m g s = { s with lanes := (stallForFill m g s).lanes, events := (stallForFill m g s).events, alertLow := (stallForFill m g s).alertLow } := by
  simp only [stallForFill]; split
  · rfl
  · rw [report_writes]; rfl

theorem stallForRoom_writes (m : Tag) (g : GuardSpan) (s : State) :
    stallForRoom m g s = { s with lanes := (stallForRoom m g s).lanes, events := (stallForRoom m g s).events, alertLow := (stallForRoom m g s).alertLow } := by
  simp only [stallForRoom]; split
  · rfl
  · rw [report_writes]; rfl

theorem carryOut_writes (m : Tag) (q : Request) (g : Segment) (d : Decision) (s : State) :
    carryOut m q g d s = { s with lanes := (carryOut m q g d s).lanes, responseGrant := (carryOut m q g d s).responseGrant, windows := (carryOut m q g d s).windows, holds := (carryOut m q g d s).holds, fills := (carryOut m q g d s).fills, park := (carryOut m q g d s).park, slots := (carryOut m q g d s).slots, copies := (carryOut m q g d s).copies, pendingSweeps := (carryOut m q g d s).pendingSweeps, sweep := (carryOut m q g d s).sweep, events := (carryOut m q g d s).events, counters := (carryOut m q g d s).counters, alertLow := (carryOut m q g d s).alertLow } := by
  unfold carryOut; split
  · rfl
  · rw [refuseSegment_writes]
  · rw [serveSegment_writes]
  · rw [bindSegment_writes]
  · rw [parkSegment_writes]
  · rw [parkOpeningSegment_writes]
  · rfl
  · rw [stallForFill_writes]
  · rw [stallForRoom_writes]

theorem offer_writes (m : Tag) (s : State) :
    offer m s = { s with lanes := (offer m s).lanes, responseGrant := (offer m s).responseGrant, windows := (offer m s).windows, holds := (offer m s).holds, fills := (offer m s).fills, park := (offer m s).park, slots := (offer m s).slots, copies := (offer m s).copies, pendingSweeps := (offer m s).pendingSweeps, sweep := (offer m s).sweep, events := (offer m s).events, counters := (offer m s).counters, alertLow := (offer m s).alertLow } := by
  unfold offer; split
  · rfl
  · rw [carryOut_writes]

theorem issueRead_writes (m : Tag) (q : Request) (g : Segment) (addr : WordAddr) (guard : GuardStatus)
    (origin : Option GuardReadOrigin) (overlay : List WriteWord) (s : State) :
    issueRead m q g addr guard origin overlay s = { s with lanes := (issueRead m q g addr guard origin overlay s).lanes, responseGrant := (issueRead m q g addr guard origin overlay s).responseGrant, inFlight := (issueRead m q g addr guard origin overlay s).inFlight } := by
  simp only [issueRead]; rw [takeWords_writes]; rfl

theorem issueWrite_writes (m : Tag) (q : Request) (g : Segment) (addr : WordAddr) (origin : Option GuardWriteOrigin) (s : State) :
    issueWrite m q g addr origin s = { s with lanes := (issueWrite m q g addr origin s).lanes, responseGrant := (issueWrite m q g addr origin s).responseGrant, inFlight := (issueWrite m q g addr origin s).inFlight } := by
  simp only [issueWrite]; rw [takeWords_writes]; rfl

theorem issuePlain_writes (m : Tag) (q : Request) (g : Segment) (s : State) :
    issuePlain m q g s = { s with lanes := (issuePlain m q g s).lanes, responseGrant := (issuePlain m q g s).responseGrant, inFlight := (issuePlain m q g s).inFlight } := by
  unfold issuePlain; split
  · rw [issueRead_writes]
  · rw [issueWrite_writes]

theorem issueGuardRead_writes (m : Tag) (q : Request) (g : Segment) (sp : GuardSpan) (bank : Option Bank)
    (guard : GuardStatus) (hold : Option HoldNo) (overlay : List WriteWord) (s : State) :
    issueGuardRead m q g sp bank guard hold overlay s = { s with lanes := (issueGuardRead m q g sp bank guard hold overlay s).lanes, responseGrant := (issueGuardRead m q g sp bank guard hold overlay s).responseGrant, inFlight := (issueGuardRead m q g sp bank guard hold overlay s).inFlight } := by
  simp only [issueGuardRead]; rw [issueRead_writes]

theorem issueFillWrite_writes (m : Tag) (q : Request) (g : Segment) (sp : GuardSpan) (f : FillNo) (s : State) :
    issueFillWrite m q g sp f s = { s with lanes := (issueFillWrite m q g sp f s).lanes, responseGrant := (issueFillWrite m q g sp f s).responseGrant, inFlight := (issueFillWrite m q g sp f s).inFlight, windows := (issueFillWrite m q g sp f s).windows, directory := (issueFillWrite m q g sp f s).directory, holds := (issueFillWrite m q g sp f s).holds, fills := (issueFillWrite m q g sp f s).fills, pendingSweeps := (issueFillWrite m q g sp f s).pendingSweeps, sweep := (issueFillWrite m q g sp f s).sweep, events := (issueFillWrite m q g sp f s).events, counters := (issueFillWrite m q g sp f s).counters, alertLow := (issueFillWrite m q g sp f s).alertLow } := by
  simp only [issueFillWrite]; rw [drainTest_writes, fillIssued_writes, issueWrite_writes]; rfl

theorem issueFillOpening_writes (m : Tag) (q : Request) (g : Segment) (sp : GuardSpan) (f : FillNo) (target : Option Bank)
    (yielding : List HoldNo) (s : State) :
    issueFillOpening m q g sp f target yielding s = { s with lanes := (issueFillOpening m q g sp f target yielding s).lanes, responseGrant := (issueFillOpening m q g sp f target yielding s).responseGrant, inFlight := (issueFillOpening m q g sp f target yielding s).inFlight, windows := (issueFillOpening m q g sp f target yielding s).windows, directory := (issueFillOpening m q g sp f target yielding s).directory, holds := (issueFillOpening m q g sp f target yielding s).holds, fills := (issueFillOpening m q g sp f target yielding s).fills, park := (issueFillOpening m q g sp f target yielding s).park, slots := (issueFillOpening m q g sp f target yielding s).slots, pendingSweeps := (issueFillOpening m q g sp f target yielding s).pendingSweeps, sweep := (issueFillOpening m q g sp f target yielding s).sweep, events := (issueFillOpening m q g sp f target yielding s).events, counters := (issueFillOpening m q g sp f target yielding s).counters, alertLow := (issueFillOpening m q g sp f target yielding s).alertLow, freeCount := (issueFillOpening m q g sp f target yielding s).freeCount } := by
  simp only [issueFillOpening]; rw [issueFillWrite_writes]; simp only [reofferWhen]; rw [allocateFill_writes, breakAll_writes]
  simp only [State.drawn]; rw [surrender_writes]

theorem freeOwnBroken_writes (m : Tag) (w : WindowNo) (r : Nat) (s : State) :
    freeOwnBroken m w r s = { s with holds := (freeOwnBroken m w r s).holds } := by
  unfold freeOwnBroken; split
  · rfl
  · split <;> rfl

theorem issueSegment_writes (m : Tag) (q : Request) (g : Segment) (how : IssueKind) (s : State) :
    issueSegment m q g how s = { s with lanes := (issueSegment m q g how s).lanes, responseGrant := (issueSegment m q g how s).responseGrant, inFlight := (issueSegment m q g how s).inFlight, windows := (issueSegment m q g how s).windows, directory := (issueSegment m q g how s).directory, holds := (issueSegment m q g how s).holds, fills := (issueSegment m q g how s).fills, park := (issueSegment m q g how s).park, slots := (issueSegment m q g how s).slots, pendingSweeps := (issueSegment m q g how s).pendingSweeps, sweep := (issueSegment m q g how s).sweep, events := (issueSegment m q g how s).events, counters := (issueSegment m q g how s).counters, alertLow := (issueSegment m q g how s).alertLow, freeCount := (issueSegment m q g how s).freeCount } := by
  simp only [issueSegment]; split
  · rw [issuePlain_writes]
  · rw [issueGuardRead_writes]
  · rw [drainTest_writes, coverHold_writes, issueGuardRead_writes]
  · rw [coverHold_writes, issueGuardRead_writes]; rfl
  · simp only [count]; rw [report_writes, issueGuardRead_writes]
  · rw [issueGuardRead_writes, freeOwnBroken_writes]
  · rw [coverHold_writes, issueGuardRead_writes]
  · rw [issueGuardRead_writes]
  · rw [issueFillWrite_writes]
  · rw [issueFillOpening_writes]

theorem requestSweep_writes (w : WindowNo) (s : State) :
    requestSweep w s = { s with pendingSweeps := (requestSweep w s).pendingSweeps, events := (requestSweep w s).events, alertLow := (requestSweep w s).alertLow } := by
  unfold requestSweep; split
  · rw [report_writes]
  · rfl

theorem requestSweeps_writes (ws : List WindowNo) (s : State) :
    requestSweeps ws s = { s with pendingSweeps := (requestSweeps ws s).pendingSweeps, events := (requestSweeps ws s).events, alertLow := (requestSweeps ws s).alertLow } := by
  induction ws generalizing s with
  | nil => rfl
  | cons w ws ih => simp only [requestSweeps]; rw [ih, requestSweep_writes]

theorem advanceTime_writes (s : State) :
    advanceTime s = { s with windows := (advanceTime s).windows, holds := (advanceTime s).holds, fills := (advanceTime s).fills, timeBase := (advanceTime s).timeBase, events := (advanceTime s).events } := by
  rfl

theorem compareDeadlines_writes (s : State) :
    compareDeadlines s = { s with windows := (compareDeadlines s).windows, pendingSweeps := (compareDeadlines s).pendingSweeps, events := (compareDeadlines s).events, alertLow := (compareDeadlines s).alertLow, freeCount := (compareDeadlines s).freeCount } := by
  simp only [compareDeadlines]; rw [requestSweeps_writes]; rfl

theorem tickStep_writes (s : State) :
    tickStep s = { s with windows := (tickStep s).windows, holds := (tickStep s).holds, fills := (tickStep s).fills, timeBase := (tickStep s).timeBase, pendingSweeps := (tickStep s).pendingSweeps, events := (tickStep s).events, alertLow := (tickStep s).alertLow, freeCount := (tickStep s).freeCount } := by
  unfold tickStep; rw [compareDeadlines_writes, advanceTime_writes]

theorem expireHold_writes (i : HoldNo) (s : State) :
    expireHold i s = { s with lanes := (expireHold i s).lanes, windows := (expireHold i s).windows, holds := (expireHold i s).holds, fills := (expireHold i s).fills, park := (expireHold i s).park, slots := (expireHold i s).slots, pendingSweeps := (expireHold i s).pendingSweeps, sweep := (expireHold i s).sweep, events := (expireHold i s).events, counters := (expireHold i s).counters, alertLow := (expireHold i s).alertLow } := by
  unfold expireHold; split
  · rw [drainTest_writes, breakHold_writes]
  · rfl

theorem expireLinger_writes (i : HoldNo) (s : State) :
    expireLinger i s = { s with holds := (expireLinger i s).holds } := by
  unfold expireLinger; split <;> rfl

theorem expireFill_writes (f : FillNo) (s : State) :
    expireFill f s = { s with lanes := (expireFill f s).lanes, windows := (expireFill f s).windows, directory := (expireFill f s).directory, holds := (expireFill f s).holds, fills := (expireFill f s).fills, pendingSweeps := (expireFill f s).pendingSweeps, sweep := (expireFill f s).sweep, events := (expireFill f s).events, counters := (expireFill f s).counters, alertLow := (expireFill f s).alertLow } := by
  unfold expireFill; split
  · rw [drainTest_writes, abandonFill_writes]
  · rfl

theorem expireDrain_writes (w : WindowNo) (s : State) :
    expireDrain w s = { s with lanes := (expireDrain w s).lanes, windows := (expireDrain w s).windows, directory := (expireDrain w s).directory, holds := (expireDrain w s).holds, fills := (expireDrain w s).fills, park := (expireDrain w s).park, slots := (expireDrain w s).slots, pendingSweeps := (expireDrain w s).pendingSweeps, sweep := (expireDrain w s).sweep, events := (expireDrain w s).events, counters := (expireDrain w s).counters, alertLow := (expireDrain w s).alertLow, freeCount := (expireDrain w s).freeCount } := by
  unfold expireDrain; split
  · rw [forceDrain_writes]
  · rfl

theorem startSweep_writes (s : State) :
    startSweep s = { s with pendingSweeps := (startSweep s).pendingSweeps, sweep := (startSweep s).sweep } := by
  unfold startSweep; split
  · rfl
  · split <;> rfl

theorem endSweep_writes (x : Sweep) (s : State) :
    endSweep x s = { s with sweep := (endSweep x s).sweep, events := (endSweep x s).events, alertLow := (endSweep x s).alertLow } := by
  simp only [endSweep]; split
  · split
    · rw [report_writes]
    · rfl
  · rfl

theorem visitSweep_writes (s : State) :
    visitSweep s = { s with directory := (visitSweep s).directory, sweep := (visitSweep s).sweep, events := (visitSweep s).events, alertLow := (visitSweep s).alertLow } := by
  simp only [visitSweep]; split
  · rfl
  · rw [endSweep_writes]; rfl

theorem takeDue_writes (d : Due) (s : State) :
    takeDue d s = { s with lanes := (takeDue d s).lanes, responseGrant := (takeDue d s).responseGrant, windows := (takeDue d s).windows, directory := (takeDue d s).directory, holds := (takeDue d s).holds, fills := (takeDue d s).fills, park := (takeDue d s).park, slots := (takeDue d s).slots, copies := (takeDue d s).copies, pendingSweeps := (takeDue d s).pendingSweeps, sweep := (takeDue d s).sweep, events := (takeDue d s).events, counters := (takeDue d s).counters, alertLow := (takeDue d s).alertLow, freeCount := (takeDue d s).freeCount } := by
  unfold takeDue; split
  · rw [expireHold_writes]
  · rw [expireLinger_writes]
  · rw [expireFill_writes]
  · rw [expireDrain_writes]
  · rfl
  · rw [startSweep_writes]
  · split
    · rw [offer_writes]
    · rfl

theorem settleFor_writes (n : Nat) (s : State) :
    settleFor n s = { s with lanes := (settleFor n s).lanes, responseGrant := (settleFor n s).responseGrant, windows := (settleFor n s).windows, directory := (settleFor n s).directory, holds := (settleFor n s).holds, fills := (settleFor n s).fills, park := (settleFor n s).park, slots := (settleFor n s).slots, copies := (settleFor n s).copies, pendingSweeps := (settleFor n s).pendingSweeps, sweep := (settleFor n s).sweep, events := (settleFor n s).events, counters := (settleFor n s).counters, alertLow := (settleFor n s).alertLow, freeCount := (settleFor n s).freeCount } := by
  induction n generalizing s with
  | zero => rfl
  | succ n ih =>
    simp only [settleFor]; split
    · rfl
    · rw [ih, takeDue_writes]
    · rw [ih, takeDue_writes]; rfl

theorem settle_writes (s : State) :
    settle s = { s with lanes := (settle s).lanes, responseGrant := (settle s).responseGrant, windows := (settle s).windows, directory := (settle s).directory, holds := (settle s).holds, fills := (settle s).fills, park := (settle s).park, slots := (settle s).slots, copies := (settle s).copies, pendingSweeps := (settle s).pendingSweeps, sweep := (settle s).sweep, events := (settle s).events, counters := (settle s).counters, alertLow := (settle s).alertLow, freeCount := (settle s).freeCount } := by
  unfold settle; rw [settleFor_writes]

theorem acceptRequest_writes (m : Tag) (addr : WordAddr) (body : Body) (s : State) :
    acceptRequest m addr body s = { s with lanes := (acceptRequest m addr body s).lanes, responseGrant := (acceptRequest m addr body s).responseGrant } := by
  unfold acceptRequest; split
  · rw [grantResponse_writes]; rfl
  · rfl

theorem grantCopy_writes (s : State) :
    grantCopy s = { s with lanes := (grantCopy s).lanes, inFlight := (grantCopy s).inFlight, copies := (grantCopy s).copies } := by
  unfold grantCopy; split
  · rfl
  · split <;> rfl

theorem fillReleased_writes (ref : Option FillRef) (s : State) :
    fillReleased ref s = { s with lanes := (fillReleased ref s).lanes, directory := (fillReleased ref s).directory, fills := (fillReleased ref s).fills, events := (fillReleased ref s).events, counters := (fillReleased ref s).counters, alertLow := (fillReleased ref s).alertLow } := by
  unfold fillReleased; split
  · rfl
  · split
    · rw [fillIssued_writes]; rfl
    · rfl

theorem grantRelease_writes (s : State) :
    grantRelease s = { s with lanes := (grantRelease s).lanes, inFlight := (grantRelease s).inFlight, windows := (grantRelease s).windows, directory := (grantRelease s).directory, holds := (grantRelease s).holds, fills := (grantRelease s).fills, park := (grantRelease s).park, pendingSweeps := (grantRelease s).pendingSweeps, sweep := (grantRelease s).sweep, events := (grantRelease s).events, counters := (grantRelease s).counters, alertLow := (grantRelease s).alertLow } := by
  unfold grantRelease; split
  · split
    · rfl
    · simp only []; rw [drainTest_writes, fillReleased_writes]; rfl
  · rfl

/-- What a lane's grant can change, if what follows an unused grant changes no more. -/
theorem grantLane_writes (again : State → State)
    (h : ∀ s : State, again s = { s with lanes := (again s).lanes, lastIssueLane := (again s).lastIssueLane, responseGrant := (again s).responseGrant, inFlight := (again s).inFlight, windows := (again s).windows, directory := (again s).directory, holds := (again s).holds, fills := (again s).fills, park := (again s).park, slots := (again s).slots, copies := (again s).copies, pendingSweeps := (again s).pendingSweeps, sweep := (again s).sweep, events := (again s).events, counters := (again s).counters, alertLow := (again s).alertLow, freeCount := (again s).freeCount }) (m : Tag) (s : State) :
    grantLane again m s = { s with lanes := (grantLane again m s).lanes, lastIssueLane := (grantLane again m s).lastIssueLane, responseGrant := (grantLane again m s).responseGrant, inFlight := (grantLane again m s).inFlight, windows := (grantLane again m s).windows, directory := (grantLane again m s).directory, holds := (grantLane again m s).holds, fills := (grantLane again m s).fills, park := (grantLane again m s).park, slots := (grantLane again m s).slots, copies := (grantLane again m s).copies, pendingSweeps := (grantLane again m s).pendingSweeps, sweep := (grantLane again m s).sweep, events := (grantLane again m s).events, counters := (grantLane again m s).counters, alertLow := (grantLane again m s).alertLow, freeCount := (grantLane again m s).freeCount } := by
  unfold grantLane; split
  · rw [h]
  · split
    · rw [issueSegment_writes]
    all_goals rw [h, carryOut_writes]

theorem grantAgain_writes (lanes : State → State)
    (h : ∀ s : State, lanes s = { s with lanes := (lanes s).lanes, lastIssueLane := (lanes s).lastIssueLane, responseGrant := (lanes s).responseGrant, inFlight := (lanes s).inFlight, windows := (lanes s).windows, directory := (lanes s).directory, holds := (lanes s).holds, fills := (lanes s).fills, park := (lanes s).park, slots := (lanes s).slots, copies := (lanes s).copies, pendingSweeps := (lanes s).pendingSweeps, sweep := (lanes s).sweep, events := (lanes s).events, counters := (lanes s).counters, alertLow := (lanes s).alertLow, freeCount := (lanes s).freeCount }) (s : State) :
    grantAgain lanes s = { s with lanes := (grantAgain lanes s).lanes, lastIssueLane := (grantAgain lanes s).lastIssueLane, responseGrant := (grantAgain lanes s).responseGrant, inFlight := (grantAgain lanes s).inFlight, windows := (grantAgain lanes s).windows, directory := (grantAgain lanes s).directory, holds := (grantAgain lanes s).holds, fills := (grantAgain lanes s).fills, park := (grantAgain lanes s).park, slots := (grantAgain lanes s).slots, copies := (grantAgain lanes s).copies, pendingSweeps := (grantAgain lanes s).pendingSweeps, sweep := (grantAgain lanes s).sweep, events := (grantAgain lanes s).events, counters := (grantAgain lanes s).counters, alertLow := (grantAgain lanes s).alertLow, freeCount := (grantAgain lanes s).freeCount } := by
  unfold grantAgain; split
  · split
    · rw [grantRelease_writes]
    · rw [h]
  · rw [grantCopy_writes]

theorem grantRound_writes (ms : List Tag) (s : State) :
    grantRound ms s = { s with lanes := (grantRound ms s).lanes, lastIssueLane := (grantRound ms s).lastIssueLane, responseGrant := (grantRound ms s).responseGrant, inFlight := (grantRound ms s).inFlight, windows := (grantRound ms s).windows, directory := (grantRound ms s).directory, holds := (grantRound ms s).holds, fills := (grantRound ms s).fills, park := (grantRound ms s).park, slots := (grantRound ms s).slots, copies := (grantRound ms s).copies, pendingSweeps := (grantRound ms s).pendingSweeps, sweep := (grantRound ms s).sweep, events := (grantRound ms s).events, counters := (grantRound ms s).counters, alertLow := (grantRound ms s).alertLow, freeCount := (grantRound ms s).freeCount } := by
  induction ms generalizing s with
  | nil => rfl
  | cons m ms ih =>
    simp only [grantRound]; split
    · rw [grantLane_writes _ (grantAgain_writes _ ih)]
    · rw [ih]

theorem grantNextLane_writes (s : State) :
    grantNextLane s = { s with lanes := (grantNextLane s).lanes, lastIssueLane := (grantNextLane s).lastIssueLane, responseGrant := (grantNextLane s).responseGrant, inFlight := (grantNextLane s).inFlight, windows := (grantNextLane s).windows, directory := (grantNextLane s).directory, holds := (grantNextLane s).holds, fills := (grantNextLane s).fills, park := (grantNextLane s).park, slots := (grantNextLane s).slots, copies := (grantNextLane s).copies, pendingSweeps := (grantNextLane s).pendingSweeps, sweep := (grantNextLane s).sweep, events := (grantNextLane s).events, counters := (grantNextLane s).counters, alertLow := (grantNextLane s).alertLow, freeCount := (grantNextLane s).freeCount } := by
  unfold grantNextLane; split
  · rw [grantRound_writes]
  · rfl

theorem answerRead_writes (p : LanePos) (overlay : List WriteWord) (beats : List MemBeat) (s : State) :
    answerRead p overlay beats s = { s with lanes := (answerRead p overlay beats s).lanes, responseGrant := (answerRead p overlay beats s).responseGrant } := by
  unfold answerRead; rw [placeWords_writes]

theorem faultFillWrite_writes (m : Tag) (o : GuardWriteOrigin) (s : State) :
    faultFillWrite m o s = { s with directory := (faultFillWrite m o s).directory, fills := (faultFillWrite m o s).fills, events := (faultFillWrite m o s).events, alertLow := (faultFillWrite m o s).alertLow } := by
  unfold faultFillWrite; rw [report_writes, fillWriteFaulted_writes]

theorem answerWrite_writes (p : LanePos) (origin : Option GuardWriteOrigin) (status : BeatStatus) (s : State) :
    answerWrite p origin status s = { s with lanes := (answerWrite p origin status s).lanes, responseGrant := (answerWrite p origin status s).responseGrant, directory := (answerWrite p origin status s).directory, fills := (answerWrite p origin status s).fills, events := (answerWrite p origin status s).events, alertLow := (answerWrite p origin status s).alertLow } := by
  simp only [answerWrite]; split
  · rw [placeWords_writes]
  · split
    · rw [placeWords_writes]
    · rw [faultFillWrite_writes, placeWords_writes]

theorem takeBound_writes (m : Tag) (fates : Nat → List WordState) (s : State) :
    takeBound m fates s = { s with lanes := (takeBound m fates s).lanes, responseGrant := (takeBound m fates s).responseGrant } := by
  unfold takeBound; split
  · rw [takeWords_writes]
  all_goals rfl

theorem openFromCopy_writes (i : HoldNo) (k : SlotNo) (m : Tag) (ws : List Word) (s : State) :
    openFromCopy i k m ws s = { s with lanes := (openFromCopy i k m ws s).lanes, responseGrant := (openFromCopy i k m ws s).responseGrant, windows := (openFromCopy i k m ws s).windows, holds := (openFromCopy i k m ws s).holds, fills := (openFromCopy i k m ws s).fills, park := (openFromCopy i k m ws s).park, slots := (openFromCopy i k m ws s).slots, pendingSweeps := (openFromCopy i k m ws s).pendingSweeps, sweep := (openFromCopy i k m ws s).sweep, events := (openFromCopy i k m ws s).events, alertLow := (openFromCopy i k m ws s).alertLow } := by
  simp only [openFromCopy, copyMoved, reofferWhen]; rw [drainTest_writes, coverHold_writes, takeBound_writes]; rfl

theorem endBrokenCopy_writes (i : HoldNo) (k : SlotNo) (m : Tag) (ws : List Word) (s : State) :
    endBrokenCopy i k m ws s = { s with lanes := (endBrokenCopy i k m ws s).lanes, responseGrant := (endBrokenCopy i k m ws s).responseGrant, holds := (endBrokenCopy i k m ws s).holds, slots := (endBrokenCopy i k m ws s).slots } := by
  simp only [endBrokenCopy]; split <;> rw [takeBound_writes] <;> rfl

theorem copyReturned_writes (i : HoldNo) (k : SlotNo) (m : Tag) (orphan : Bool) (ws : List Word) (s : State) :
    copyReturned i k m orphan ws s = { s with lanes := (copyReturned i k m orphan ws s).lanes, responseGrant := (copyReturned i k m orphan ws s).responseGrant, windows := (copyReturned i k m orphan ws s).windows, holds := (copyReturned i k m orphan ws s).holds, fills := (copyReturned i k m orphan ws s).fills, park := (copyReturned i k m orphan ws s).park, slots := (copyReturned i k m orphan ws s).slots, pendingSweeps := (copyReturned i k m orphan ws s).pendingSweeps, sweep := (copyReturned i k m orphan ws s).sweep, events := (copyReturned i k m orphan ws s).events, alertLow := (copyReturned i k m orphan ws s).alertLow } := by
  unfold copyReturned; split
  · rw [takeBound_writes]
  · split
    · rw [openFromCopy_writes]
    · rw [endBrokenCopy_writes]
    · rfl
    · rfl

theorem copyFailed_writes (i : HoldNo) (k : SlotNo) (w : WindowNo) (r : Nat) (m : Tag) (orphan : Bool) (s : State) :
    copyFailed i k w r m orphan s = { s with lanes := (copyFailed i k w r m orphan s).lanes, responseGrant := (copyFailed i k w r m orphan s).responseGrant, windows := (copyFailed i k w r m orphan s).windows, holds := (copyFailed i k w r m orphan s).holds, slots := (copyFailed i k w r m orphan s).slots, pendingSweeps := (copyFailed i k w r m orphan s).pendingSweeps, sweep := (copyFailed i k w r m orphan s).sweep, events := (copyFailed i k w r m orphan s).events, alertLow := (copyFailed i k w r m orphan s).alertLow } := by
  simp only [copyFailed]; rw [drainTest_writes, report_writes]; split
  · rw [takeBound_writes]
  · simp only [copyMoved, reofferWhen]; rw [takeBound_writes]; rfl

theorem respondRelease_writes (status : BeatStatus) (s : State) :
    respondRelease status s = { s with inFlight := (respondRelease status s).inFlight, directory := (respondRelease status s).directory, fills := (respondRelease status s).fills, events := (respondRelease status s).events, alertLow := (respondRelease status s).alertLow } := by
  unfold respondRelease; split
  · rfl
  · dsimp only; split
    · split
      · rfl
      · rw [report_writes, fillWriteFaulted_writes]
    all_goals rfl

theorem deliver_writes (s : State) :
    deliver s = { s with lanes := (deliver s).lanes, lastResponseLane := (deliver s).lastResponseLane, responseGrant := (deliver s).responseGrant, delivered := (deliver s).delivered } := by
  unfold deliver; split
  · rfl
  · split
    · rfl
    · split
      · rw [grantResponse_writes]; rfl
      · rfl

end Sys2Proof.Machine
end

