-- ==== Sys2Proof/Laws/Arbiter.lean ====
section
/-! SUPPORT. What a grant at the lane heads does: the first candidate of the round robin is judged again, and a grant it
does not use is chosen again (R13, R19). Proofs cite these and do not unfold the round. -/

namespace Sys2Proof.Machine

/-- A segment judged as one to issue is issued, and its lane is the last one granted. -/
theorem grantLane_issue {s : State} {m : Tag} {q : Request} {g : Segment} {how : IssueKind} (again : State → State)
    (hh : headSegment s m = some (q, g)) (hd : decideSegment s m q g = .issue how) :
    grantLane again m s = issueSegment m q g how { s with lastIssueLane := m } := by
  simp only [grantLane, hh, hd]

/-- A segment judged otherwise takes that fate, and the arbiter chooses again. -/
theorem grantLane_other {s : State} {m : Tag} {q : Request} {g : Segment} (again : State → State)
    (hh : headSegment s m = some (q, g)) (hd : ∀ how, decideSegment s m q g ≠ .issue how) :
    grantLane again m s = again (carryOut m q g (decideSegment s m q g) s) := by
  simp only [grantLane, hh]
  split <;> simp_all

/-- Lanes that are no candidates are passed over. -/
theorem grantRound_skip {s : State} (ms rest : List Tag) (h : ∀ m ∈ ms, laneCandidate s m = false) :
    grantRound (ms ++ rest) s = grantRound rest s := by
  induction ms with
  | nil => rfl
  | cons m ms ih =>
    simp only [List.cons_append, grantRound, h m (.head _), Bool.false_eq_true, if_false]
    exact ih fun n hn => h n (.tail _ hn)

/-- A round without a candidate changes nothing. -/
theorem grantRound_none {s : State} (ms : List Tag) (h : ∀ m ∈ ms, laneCandidate s m = false) : grantRound ms s = s := by
  have k := grantRound_skip ms [] h
  rwa [List.append_nil] at k

/-- The grant goes to the first candidate of the round; the lanes after it remain. -/
theorem grantRound_first {s : State} {ms : List Tag} {m : Tag} (h : ms.find? (laneCandidate s) = some m) :
    ∃ pre post, ms = pre ++ m :: post ∧ grantRound ms s = grantLane (grantAgain (grantRound post)) m s := by
  obtain ⟨hm, pre, post, rfl, hp⟩ := List.find?_eq_some_iff_append.mp h
  refine ⟨pre, post, rfl, ?_⟩
  rw [grantRound_skip pre _ fun n hn => by simpa using hp n hn]
  simp only [grantRound, hm, if_true]

/-- No lane is granted out of turn. -/
theorem grantNextLane_notTurn {s : State} (h : laneTurn s = false) : grantNextLane s = s := by
  simp [grantNextLane, h]

theorem grantNextLane_none {s : State} (h : nextLane s = none) : grantNextLane s = s := by
  unfold grantNextLane; split
  · exact grantRound_none _ fun m hm => by simpa using List.find?_eq_none.mp h m hm
  · rfl

/-- In turn the grant goes to the arbiter's choice, and the lanes after it in the round remain. -/
theorem grantNextLane_first {s : State} {m : Tag} (ht : laneTurn s = true) (h : nextLane s = some m) :
    ∃ pre post, roundRobin s.lastIssueLane = pre ++ m :: post
      ∧ grantNextLane s = grantLane (grantAgain (grantRound post)) m s := by
  simp only [grantNextLane, ht, if_true]; exact grantRound_first h

/-- A grant chosen again goes to the lanes that remain where the last fate left no copy request and no release. -/
theorem grantAgain_lanes {s : State} (lanes : State → State) (hc : s.copies = [])
    (hr : s.park.any ParkEntry.isReleased = false) : grantAgain lanes s = lanes s := by
  simp [grantAgain, hc, hr]

end Sys2Proof.Machine
end

