-- ==== Sys2Proof/Laws/Lanes.lean ====
section
/-! SUPPORT. Which operations leave the requests of every lane as they were: they change phases and notes of stalls at
most. -/

namespace Sys2Proof.Machine

/-- Every lane holds the same requests in both states. -/
def SameRequests (s t : State) : Prop := ∀ m : Tag, t.lanes[m].reqs = s.lanes[m].reqs

theorem SameRequests.refl (s : State) : SameRequests s s := fun _ => rfl

theorem SameRequests.trans {s t u : State} (h : SameRequests s t) (k : SameRequests t u) : SameRequests s u :=
  fun m => (k m).trans (h m)

/-- An operation that leaves the lanes alone keeps the requests. -/
theorem SameRequests.of_lanes {s t : State} (h : t.lanes = s.lanes) : SameRequests s t := fun m => by rw [h]

theorem reoffer_reqs (p : Stall → Bool) (l : Lane) : (l.reoffer p).reqs = l.reqs := by
  unfold Lane.reoffer; split
  · split <;> rfl
  all_goals rfl

theorem recut_reqs (old new : Vector Window 16) (l : Lane) : (l.recut old new).reqs = l.reqs := by
  unfold Lane.recut; split
  · rfl
  · rfl
  all_goals
    split
    · rfl
    · split <;> rfl

theorem sameRequests_reofferWhen (p : Stall → Bool) (s : State) : SameRequests s (reofferWhen p s) := fun m => by
  unfold reofferWhen; rw [getElem_tableMap, reoffer_reqs]

theorem sameRequests_recut (old : Vector Window 16) (s : State) : SameRequests s (recut old s) := fun m => by
  unfold recut; rw [getElem_tableMap, recut_reqs]

theorem sameRequests_setPhase (m : Tag) (ph : HeadPhase) (s : State) : SameRequests s (setPhase m ph s) := fun n => by
  simp only [setPhase, setLane_lanes]; rw [getElem_set_fin]; split
  · subst_vars; rfl
  · rfl

theorem sameRequests_activateFill (f : FillNo) (target : Option Bank) (s : State) :
    SameRequests s (activateFill f target s) := (SameRequests.of_lanes rfl).trans (sameRequests_reofferWhen _ _)

theorem sameRequests_tryActivate (w : WindowNo) (r : Nat) (s : State) : SameRequests s (tryActivate w r s) := by
  unfold tryActivate; split
  · exact .refl s
  · split
    · split
      · exact .refl s
      · exact sameRequests_activateFill _ _ s
    · exact .refl s

theorem sameRequests_report (r : Report) (s : State) : SameRequests s (report r s) :=
  .of_lanes (by rw [report_writes])

theorem sameRequests_freeFillEntry (f : FillNo) (s : State) : SameRequests s (freeFillEntry f s) :=
  (SameRequests.of_lanes rfl).trans (sameRequests_reofferWhen _ _)

theorem sameRequests_publish (f : FillNo) (s : State) : SameRequests s (publish f s) := by
  refine SameRequests.trans ?_ (sameRequests_report _ _)
  exact (SameRequests.of_lanes rfl).trans ((sameRequests_freeFillEntry f _).trans (.of_lanes rfl))

theorem sameRequests_abandonFill (f : FillNo) (s : State) : SameRequests s (abandonFill f s) := by
  have h : ∀ u : State, u.lanes = s.lanes → SameRequests s (count .fillsAbandoned s.fills[f].window
      (report (.of .fillAbandoned s.fills[f].window s.fills[f].record s.fills[f].owner) u)) := fun u hu =>
    ((SameRequests.of_lanes hu).trans (sameRequests_report _ u)).trans (.of_lanes rfl)
  simp only [abandonFill]
  split
  · refine SameRequests.trans (h _ ?_) (sameRequests_freeFillEntry f _)
    split <;> rfl
  · refine h _ ?_
    split <;> rfl

theorem sameRequests_fillIssued (f : FillNo) (s : State) : SameRequests s (fillIssued f s) := by
  simp only [fillIssued]; split
  · split
    · exact sameRequests_freeFillEntry f s
    · split
      · exact sameRequests_publish f s
      · exact .refl s
  · exact .refl s

theorem sameRequests_leftOpen (w : WindowNo) (r : Nat) (s : State) : SameRequests s (leftOpen w r s) :=
  (sameRequests_reofferWhen _ s).trans (sameRequests_tryActivate w r _)

theorem sameRequests_copyMoved (w : WindowNo) (r : Nat) (s : State) : SameRequests s (copyMoved w r s) :=
  sameRequests_reofferWhen _ s

theorem sameRequests_closeHold (i : HoldNo) (s : State) : SameRequests s (closeHold i s) :=
  (SameRequests.of_lanes (by rw [releaseSlot_writes]; rfl)).trans (sameRequests_leftOpen _ _ _)

theorem sameRequests_surrender (m : Tag) (w : WindowNo) (r : Nat) (s : State) : SameRequests s (surrender m w r s) := by
  unfold surrender; split
  · exact .refl s
  · split
    · exact sameRequests_closeHold _ s
    · split
      · exact .of_lanes rfl
      · exact .refl s
    · exact .refl s
    · exact .refl s

theorem sameRequests_coverHold (i : HoldNo) (a n : Nat) (s : State) : SameRequests s (coverHold i a n s) := by
  simp only [coverHold]; split
  · split
    · exact (SameRequests.of_lanes rfl).trans (sameRequests_closeHold i _)
    all_goals exact .of_lanes rfl
  · exact .of_lanes rfl

theorem sameRequests_breakEntry (reason : BreakReason) (i : HoldNo) (s : State) :
    SameRequests s (breakEntry reason i s) := .of_lanes (by rw [breakEntry_writes])

theorem sameRequests_breakHold (reason : BreakReason) (i : HoldNo) (s : State) : SameRequests s (breakHold reason i s) := by
  refine (sameRequests_breakEntry reason i s).trans ?_
  simp only [breakHold]; unfold afterBreak; split
  · exact sameRequests_leftOpen _ _ _
  · exact sameRequests_copyMoved _ _ _
  · exact .refl _
  · exact .refl _

theorem sameRequests_breakAll (reason : BreakReason) (is : List HoldNo) (s : State) :
    SameRequests s (breakAll reason is s) := by
  induction is generalizing s with
  | nil => exact .refl s
  | cons i is ih => exact (sameRequests_breakHold reason i s).trans (ih _)

theorem sameRequests_completeDrain (w : WindowNo) (s : State) : SameRequests s (completeDrain w s) :=
  (SameRequests.of_lanes (by rw [report_writes]; rfl)).trans (sameRequests_recut _ _)

theorem sameRequests_drainTest (w : WindowNo) (s : State) : SameRequests s (drainTest w s) := by
  unfold drainTest; split
  · exact sameRequests_completeDrain w s
  · exact .refl s

theorem sameRequests_activateFills (fs : List FillNo) (s : State) : SameRequests s (activateFills fs s) := by
  induction fs generalizing s with
  | nil => exact .refl s
  | cons f fs ih => exact (sameRequests_tryActivate _ _ s).trans (ih _)

theorem sameRequests_abandonIncomplete (fs : List FillNo) (s : State) : SameRequests s (abandonIncomplete fs s) := by
  induction fs generalizing s with
  | nil => exact .refl s
  | cons f fs ih =>
    simp only [abandonIncomplete]
    refine SameRequests.trans ?_ (ih _)
    split
    · exact sameRequests_abandonFill f s
    · exact .refl s

theorem sameRequests_forceDrain (w : WindowNo) (s : State) : SameRequests s (forceDrain w s) := by
  refine SameRequests.trans ?_ (sameRequests_drainTest w _)
  refine SameRequests.trans ?_ (sameRequests_report _ _)
  refine SameRequests.trans ?_ (sameRequests_abandonIncomplete _ _)
  refine SameRequests.trans ?_ (sameRequests_activateFills _ _)
  refine SameRequests.trans ?_ (sameRequests_reofferWhen _ _)
  exact .of_lanes (by rw [breakForDrain_writes]; rfl)

/-- Enabling a window cuts its words anew and changes no request (R37). -/
theorem sameRequests_putInService (w : WindowNo) (init : Bool) (s : State) : SameRequests s (putInService w init s) :=
  (SameRequests.of_lanes rfl).trans (sameRequests_recut _ _)

theorem sameRequests_breakNamed (w : WindowNo) (is : List HoldNo) (s : State) : SameRequests s (breakNamed w is s) := by
  refine SameRequests.trans ?_ (sameRequests_drainTest w _)
  exact SameRequests.trans (t := s.drawn) (.of_lanes rfl) (sameRequests_breakAll _ _ _)

theorem unbind_reqs (copies : List CopyRequest) (m : Tag) (l : Lane) : (unbind copies m l).reqs = l.reqs := by
  unfold unbind; split
  · split <;> rfl
  · rfl

/-- Soft reset keeps every request of every lane (R21). -/
theorem sameRequests_softReset (s : State) : SameRequests s (softReset s) := by
  refine SameRequests.trans (t := { softReset s with lanes := tableMap (fun m l => unbind s.copies m l) s.lanes }) ?_ ?_
  · intro m; simp only; rw [getElem_tableMap, unbind_reqs]
  · intro m; simp only [softReset, recut]; rw [getElem_tableMap, recut_reqs]

end Sys2Proof.Machine
end

