-- ==== Sys2Proof/Laws/Link.lean ====
section
/-! SUPPORT. What an outside event does where nothing is due, and what a whole frame does: the command it carries, run on the
state whose receiver is idle again (R160, R161). -/

namespace Sys2Proof.Machine

theorem settleFor_of_settled {s : State} (h : s.Settled) (n : Nat) : settleFor n s = s := by
  cases n with
  | zero => rfl
  | succ n =>
    have h' : dueSteps s = [] := h
    simp only [settleFor]; rw [h']

/-- Where nothing is due, settling changes nothing (log 3). -/
theorem settle_of_settled {s : State} (h : s.Settled) : settle s = s := settleFor_of_settled h settleFuel

/-- What is due does not depend on the link. -/
theorem dueSteps_link (s : State) (l : Link) : dueSteps { s with link := l } = dueSteps s := rfl

theorem settled_link {s : State} (h : s.Settled) (l : Link) : ({ s with link := l } : State).Settled := h

/-- Nothing is due in the state after reset. -/
theorem settled_reset : State.reset.Settled := by decide +kernel

/-- The state in which the command of a frame of n bytes runs: the frame has ended (R160). -/
def afterFrame (n : Nat) (s : State) : State := { s with link := ⟨false, .idle, s.link.holder, zeros n⟩ }

theorem takeFrame_receiving {s : State} (hc : s.link.csLow = true) (hr : s.link.receiver = .receiving) (n : Nat)
    (taken : State → State) : takeFrame n taken s = taken (afterFrame n s) := by
  unfold takeFrame
  rw [if_pos hc, hr]
  rfl

/-- A frame of the right length and check byte, at a part where nothing is due, runs its command and stores the verdict. -/
theorem commandFrame_runs {s : State} (hs : s.Settled) (hc : s.link.csLow = true) (hr : s.link.receiver = .receiving)
    (code : Byte) (run : List Byte → State → State × Verdict) (args : List Byte) :
    commandFrame code args.length run (args ++ [checkByte (code :: args)]) s =
      .next (store ((run args (afterFrame (args.length + 2) s)).2.response code)
        (run args (afterFrame (args.length + 2) s)).1) := by
  unfold commandFrame
  rw [takeFrame_receiving hc hr]
  have hl : 1 + (args ++ [checkByte (code :: args)]).length = args.length + 2 := by simp; omega
  rw [hl]
  have hs' : (afterFrame (args.length + 2) s).Settled := settled_link hs _
  simp only [judge, List.length_append, List.length_singleton, ne_eq, not_true_eq_false, if_false, runCommand,
    List.getLast?_append, List.getLast?_singleton, List.dropLast_concat, Option.some_or, settle_of_settled hs']

end Sys2Proof.Machine
end

