-- ==== Sys2Proof/Laws/PerInstr.lean ====
section
/-! SUPPORT. A statement made for every command: a well-formed frame begins with a code of Table 10-1, unless it is the
frame of an unknown command (R161). -/

namespace Sys2Proof.Laws.FrameCodes

/-- Byte 0 of a frame that ends whole; the other commands are no such frame (R161). -/
def byteZero : Instr → Option Byte
  | .unknownCommand code _ => some code
  | .identify _ => some 0x01
  | .status _ => some 0x02
  | .readWindow _ => some 0x10
  | .writeWindow _ => some 0x11
  | .enableWindow _ => some 0x12
  | .disableWindow _ => some 0x13
  | .readRecord _ => some 0x18
  | .writeRecord _ => some 0x19
  | .readHold _ => some 0x20
  | .breakHolds _ => some 0x21
  | .readEvents _ => some 0x28
  | .readCounters _ => some 0x30
  | .clearCounters _ => some 0x31
  | .setTimebase _ => some 0x38
  | .readTimebase _ => some 0x39
  | .setEventControl _ => some 0x3A
  | .softReset _ => some 0x5A
  | .fetch _ => some 0x7E
  | .requestArrival _ _ _ | .segmentOffer _ | .laneSegmentGrant | .copyRequestGrant | .parkReleaseGrant
  | .segmentResponse _ | .copyResponse _ | .parkReleaseResponse _ | .strayResponse _ | .responseDelivery
  | .tick | .holdExpired _ | .lingerExpiry _ | .fillExpiry _ | .drainCountdownExpiry _ | .alertAgeExpiry
  | .sweepStart | .sweepVisit | .drainCompletion _ | .frameStart | .frameAbort _ _ | .pinReset | .resetRelease => none

/-- UNKNOWN_COMMAND. -/
def isUnknown (i : Instr) : Bool := match i with | .unknownCommand _ _ => true | _ => false

/-- Byte 0 of a well-formed frame is a command code exactly when the frame is not an unknown command's. -/
def Statement (i : Instr) : Prop :=
  i.wellFormed = true → ∀ b, byteZero i = some b → commandCodes.contains b = !isUnknown i

theorem requestArrival (m : Tag) (addr : WordAddr) (body : Body) : Statement (.requestArrival m addr body) := by
  intro _ b h; cases h
theorem segmentOffer (m : Tag) : Statement (.segmentOffer m) := by
  intro _ b h; cases h
theorem laneSegmentGrant : Statement .laneSegmentGrant := by
  intro _ b h; cases h
theorem copyRequestGrant : Statement .copyRequestGrant := by
  intro _ b h; cases h
theorem parkReleaseGrant : Statement .parkReleaseGrant := by
  intro _ b h; cases h
theorem segmentResponse (resp : MemResponse) : Statement (.segmentResponse resp) := by
  intro _ b h; cases h
theorem copyResponse (beats : List MemBeat) : Statement (.copyResponse beats) := by
  intro _ b h; cases h
theorem parkReleaseResponse (status : BeatStatus) : Statement (.parkReleaseResponse status) := by
  intro _ b h; cases h
theorem strayResponse (resp : MemResponse) : Statement (.strayResponse resp) := by
  intro _ b h; cases h
theorem responseDelivery : Statement .responseDelivery := by
  intro _ b h; cases h
theorem tick : Statement .tick := by
  intro _ b h; cases h
theorem holdExpired (i : HoldNo) : Statement (.holdExpired i) := by
  intro _ b h; cases h
theorem lingerExpiry (i : HoldNo) : Statement (.lingerExpiry i) := by
  intro _ b h; cases h
theorem fillExpiry (f : FillNo) : Statement (.fillExpiry f) := by
  intro _ b h; cases h
theorem drainCountdownExpiry (w : WindowNo) : Statement (.drainCountdownExpiry w) := by
  intro _ b h; cases h
theorem alertAgeExpiry : Statement .alertAgeExpiry := by
  intro _ b h; cases h
theorem sweepStart : Statement .sweepStart := by
  intro _ b h; cases h
theorem sweepVisit : Statement .sweepVisit := by
  intro _ b h; cases h
theorem drainCompletion (w : WindowNo) : Statement (.drainCompletion w) := by
  intro _ b h; cases h
theorem frameStart : Statement .frameStart := by
  intro _ b h; cases h
theorem frameAbort (bytes : List Byte) (bits : Fin 8) : Statement (.frameAbort bytes bits) := by
  intro _ b h; cases h
theorem unknownCommand (code : Byte) (rest : List Byte) : Statement (.unknownCommand code rest) := by
  intro hw b h; cases h; simpa [Instr.wellFormed, isUnknown] using hw
theorem identify (rest : List Byte) : Statement (.identify rest) := by
  intro _ b h; cases h; rfl
theorem status (rest : List Byte) : Statement (.status rest) := by
  intro _ b h; cases h; rfl
theorem readWindow (rest : List Byte) : Statement (.readWindow rest) := by
  intro _ b h; cases h; rfl
theorem writeWindow (rest : List Byte) : Statement (.writeWindow rest) := by
  intro _ b h; cases h; rfl
theorem enableWindow (rest : List Byte) : Statement (.enableWindow rest) := by
  intro _ b h; cases h; rfl
theorem disableWindow (rest : List Byte) : Statement (.disableWindow rest) := by
  intro _ b h; cases h; rfl
theorem readRecord (rest : List Byte) : Statement (.readRecord rest) := by
  intro _ b h; cases h; rfl
theorem writeRecord (rest : List Byte) : Statement (.writeRecord rest) := by
  intro _ b h; cases h; rfl
theorem readHold (rest : List Byte) : Statement (.readHold rest) := by
  intro _ b h; cases h; rfl
theorem breakHolds (rest : List Byte) : Statement (.breakHolds rest) := by
  intro _ b h; cases h; rfl
theorem readEvents (rest : List Byte) : Statement (.readEvents rest) := by
  intro _ b h; cases h; rfl
theorem readCounters (rest : List Byte) : Statement (.readCounters rest) := by
  intro _ b h; cases h; rfl
theorem clearCounters (rest : List Byte) : Statement (.clearCounters rest) := by
  intro _ b h; cases h; rfl
theorem setTimebase (rest : List Byte) : Statement (.setTimebase rest) := by
  intro _ b h; cases h; rfl
theorem readTimebase (rest : List Byte) : Statement (.readTimebase rest) := by
  intro _ b h; cases h; rfl
theorem setEventControl (rest : List Byte) : Statement (.setEventControl rest) := by
  intro _ b h; cases h; rfl
theorem softReset (rest : List Byte) : Statement (.softReset rest) := by
  intro _ b h; cases h; rfl
theorem fetch (rest : List Byte) : Statement (.fetch rest) := by
  intro _ b h; cases h; rfl
theorem pinReset : Statement .pinReset := by
  intro _ b h; cases h
theorem resetRelease : Statement .resetRelease := by
  intro _ b h; cases h

end Sys2Proof.Laws.FrameCodes
end

