-- ==== Sys2Proof/Tests/Slice0.lean ====
section
/-! SUPPORT. Small checks of the model on one configuration: the part with three windows in service. Each `test_<name>_holds`
shows concrete values that meet the hypotheses of the obligation of that name, clause by clause. -/

open Sys2Proof Sys2Proof.Machine Sys2Proof.Statements

namespace Sys2Proof.Tests

set_option Elab.async false

/-! ### The configuration -/

/-- Window 2: SINGLE, 8 records of 4 words, 2 of them guard words, producer 6. -/
def single : WinConfig :=
  { WinConfig.zero with
    faceBase := 0x4000, size := 4, guardLen := 2, count := 8, dirStart := 0, producer := .master 6, holdLimit := 40,
    fillLimit := 300, drainLimit := 100 }

/-- Window 5: BANKED, 4 records of 3 words, two banks, PROTECTED, any producer. -/
def banked : WinConfig :=
  { WinConfig.zero with
    mode := .banked, bankCount := 2, faceBase := 0x4020, size := 3, guardLen := 3, count := 4, dirStart := 8,
    bank0 := 0x8000, bank1 := 0x800C, producer := .any, holdLimit := 40, fillLimit := 300, drainLimit := 100,
    bankGuard := .protectedGuard }

/-- Window 7: SNAP, 16 records of 8 words, 4 of them guard words, producer 4, swept every 20000 ticks. -/
def snap : WinConfig :=
  { WinConfig.zero with
    mode := .snap, faceBase := 0x8018, size := 8, guardLen := 4, count := 16, dirStart := 12, producer := .master 4,
    fillLimit := 500, drainLimit := 2000, freshMode := .repeating, period := 20000, firstDeadline := 10000 }

/-- A window in service. -/
def live (c : WinConfig) : Window := ⟨.live, c, c.firstDeadline, c.freshMode⟩

/-- The part after reset with the three windows in service. -/
def part : State :=
  { State.reset with windows := ((State.reset.windows.set 2 (live single)).set 5 (live banked)).set 7 (live snap) }

def rd (addr : WordAddr) (n : Nat) : Request := ⟨0, addr, .read n, List.replicate n .untaken⟩
def wr (addr : WordAddr) (ws : List WriteWord) : Request := ⟨0, addr, .write ws, List.replicate ws.length .untaken⟩
def full (x : Word) : WriteWord := ⟨x, 0xF⟩

/-- A lane with one request at its head. -/
def atHead (m : Tag) (q : Request) (ph : HeadPhase) (s : State) : State :=
  { s with lanes := s.lanes.set m ⟨[q], 1, ph, false, false⟩ }

def aHold (st : HoldState) (m : Tag) (w : WindowNo) : Hold :=
  { Hold.cleared with state := st, master := m, window := w, coverage := 1, countdown := 40 }

def aFill (st : FillState) (m : Tag) (w : WindowNo) : Fill :=
  { Fill.cleared 1 with state := st, owner := m, window := w, countdown := 300 }

def withHold (i : HoldNo) (h : Hold) (s : State) : State := { s with holds := s.holds.set i h }
def withFill (f : FillNo) (x : Fill) (s : State) : State := { s with fills := s.fills.set f x }
def withWindow (w : WindowNo) (x : Window) (s : State) : State := { s with windows := s.windows.set w x }

/-- A frame is being received. -/
def linked (s : State) : State := { s with link := ⟨true, .receiving, none, []⟩ }

/-- The state an outcome leads to. -/
def after (r : Result) : Option State := match r with | .next t => some t | .fault _ => none | .refused _ => none

theorem eq_next_of_after {r : Result} {t : State} (h : after r = some t) : r = .next t := by
  cases r <;> simp_all [after]

/-- A fact of the state an outcome leads to. -/
def then' (r : Result) (p : State → Bool) : Bool := match after r with | some t => p t | none => false

/-! ### The configuration is one the part accepts, and it is coherent -/

theorem test_single_valid : validate State.reset single = none := by decide +kernel
theorem test_banked_valid : validate (withWindow 2 (live single) State.reset) banked = none := by decide +kernel
theorem test_snap_valid :
    validate (withWindow 5 (live banked) (withWindow 2 (live single) State.reset)) snap = none := by decide +kernel
theorem test_part_settled : part.Settled := by decide +kernel

/-! ### Well-formedness refuses what cannot be presented -/

theorem test_illFormed_empty : (Instr.requestArrival 0 0 (.read 0)).wellFormed = false := by decide
theorem test_illFormed_long : (Instr.requestArrival 0 0 (.read 17)).wellFormed = false := by decide
theorem test_illFormed_emptyWrite : (Instr.requestArrival 0 0 (.write [])).wellFormed = false := by decide
theorem test_wellFormed_longest : (Instr.requestArrival 0 0 (.read 16)).wellFormed = true := by decide
theorem test_illFormed_response : (Instr.segmentResponse (.read [])).wellFormed = false := by decide
theorem test_illFormed_copy : (Instr.copyResponse (List.replicate 17 ⟨0, .okay⟩)).wellFormed = false := by decide
theorem test_illFormed_stray : (Instr.strayResponse (.read [])).wellFormed = false := by decide
theorem test_illFormed_abort : (Instr.frameAbort [0x01] 0).wellFormed = false := by decide
theorem test_illFormed_known : (Instr.unknownCommand 0x7E []).wellFormed = false := by decide
theorem test_wellFormed_unknown : (Instr.unknownCommand 0x7F []).wellFormed = true := by decide

/-- No row of the table gives bits, so no word spells a command. -/
theorem test_noWordDecodes : decodeTableWord 8 0 = none := by decide

/-! ### Arrival and lanes -/

def fourDeep : State := { part with lanes := part.lanes.set 3 ⟨List.replicate 4 (rd 0 1), 0, .candidate, false, false⟩ }
def threeDeep : State := { part with lanes := part.lanes.set 3 ⟨List.replicate 3 (rd 0 1), 3, .candidate, false, false⟩ }

theorem test_arrivalJoinsLane_holds :
    (fourDeep.Settled ∧ fourDeep.resetLow = false ∧ burstOk 16 = true ∧ 4 ≤ fourDeep.lanes[3].reqs.length)
      ∧ (threeDeep.Settled ∧ threeDeep.lanes[3].reqs.length < 4 ∧ threeDeep.lanes[3].head ≠ none)
      ∧ (part.Settled ∧ part.lanes[3].reqs.length < 4 ∧ part.lanes[3].head = none
        ∧ (0x3FFFFFF0#30).toNat + 16 ≤ 2 ^ 30 ∧ 2 ^ 30 < (0x3FFFFFF1#30).toNat + 16) := by
  decide +kernel

/-- A request beyond the end of the address space is refused whole; one that ends at the end is offered. -/
theorem test_arrival_wraps :
    then' (exec (.requestArrival 3 0x3FFFFFF1 (.read 16)) part) (fun t => t.lanes[3].hasResponse && decide (t.responseGrant = some 3)) = true
      ∧ then' (exec (.requestArrival 3 0x3FFFFFF0 (.read 16)) part) (fun t => decide (t.lanes[3].phase = .toOffer)) = true := by
  decide +kernel

def cut : Request := { rd 0x10 3 with words := [.pending .plain, .untaken, .untaken] }

theorem test_takenWordsStand_holds :
    cut.allTaken = false ∧ cut.wraps = false ∧ cut.takenCount + [WordState.pending .plain].length ≤ cut.words.length
      ∧ cut.takenCount + [WordState.pending .plain, .pending .plain].length ≤ cut.words.length
      ∧ (cut.take [.pending .plain]).allTaken = false ∧ (cut.take [.pending .plain, .pending .plain]).allTaken = true
      ∧ (rd 0 1).allTaken = false ∧ (rd 0 1).wraps = false := by
  decide +kernel

/-! ### Offers -/

/-- The segment at the head of lane m. -/
def seg (m : Tag) (s : State) : Segment := ((headSegment s m).map Prod.snd).getD ⟨0, 0, .outside⟩

/-- A read of word 0 of record 0 of window 2 by master 3, due to be offered. -/
def reads2 (s : State) : State := atHead 3 (rd 0x4000 1) .toOffer s
/-- A write of that word by master m. -/
def writes2 (m : Tag) (s : State) : State := atHead m (wr 0x4000 [full 7]) .toOffer s
def seg2 : Segment := ⟨0, 1, .faceGuard 2 0⟩
def span2 : GuardSpan := ⟨2, 0, 0, 1⟩

def staleRecord (s : State) : State :=
  withWindow 2 { live single with cfg := { single with stalePolicy := .fault } }
    { s with directory := [(0, ⟨0, 1, false, true, false, 5⟩)] }

theorem test_offerRefusals_holds_foreign :
    Offered (writes2 3 part) 3 (wr 0x4000 [full 7]) seg2
      ∧ WritesGuard (writes2 3 part) (wr 0x4000 [full 7]) seg2 span2 [full 7]
      ∧ ((writes2 3 part).cfg 2).producer = .master 6 ∧ (6 : Tag) ≠ 3 := by
  dsimp only [Offered, WritesGuard]; and_intros <;> first | exact ⟨_, rfl⟩ | decide +kernel

def anyProducer (s : State) : State := withWindow 2 (live { single with producer := .any }) s
def conflicts : State := writes2 3 (withFill 4 (aFill .active 6 2) (anyProducer part))

theorem test_offerRefusals_holds_conflict :
    Offered conflicts 3 (wr 0x4000 [full 7]) seg2 ∧ WritesGuard conflicts (wr 0x4000 [full 7]) seg2 span2 [full 7]
      ∧ mayProduce (conflicts.cfg 2).producer 3 = true ∧ openFill conflicts 2 0 = some 4 ∧ conflicts.fills[4].owner ≠ 3 := by
  dsimp only [Offered, WritesGuard]; and_intros <;> first | exact ⟨_, rfl⟩ | decide +kernel

theorem test_offerRefusals_holds_bank :
    Offered (atHead 3 (rd 0x8000 1) .toOffer part) 3 (rd 0x8000 1) ⟨0, 1, .bankRange 5 0⟩
      ∧ (part.cfg 5).bankGuard = .protectedGuard := by
  dsimp only [Offered]; and_intros <;> decide +kernel

theorem test_offerRefusals_holds_stale :
    Offered (reads2 (staleRecord part)) 3 (rd 0x4000 1) seg2
      ∧ ReadsGuard (reads2 (staleRecord part)) (rd 0x4000 1) seg2 span2 ∧ span2.offset = 0
      ∧ Live (reads2 (staleRecord part)) 2 ∧ openFill (reads2 (staleRecord part)) 2 0 = none
      ∧ findHold (reads2 (staleRecord part)) 3 2 0 = none
      ∧ ((reads2 (staleRecord part)).dirEntry 2 0).stale = true
      ∧ ((reads2 (staleRecord part)).cfg 2).stalePolicy = .fault := by
  dsimp only [Offered, ReadsGuard, Live]; and_intros <;> first | exact ⟨_, rfl⟩ | decide +kernel

/-- The four refusals, as the Event Unit records them. -/
theorem test_refusalEvents :
    then' (exec (.segmentOffer 3) (writes2 3 part)) (fun t => decide (t.events.queue.map EventRecord.kind = [.foreignWrite])) = true
      ∧ then' (exec (.segmentOffer 3) conflicts) (fun t => decide (t.events.queue.map EventRecord.kind = [.fillConflict])) = true
      ∧ then' (exec (.segmentOffer 3) (atHead 3 (rd 0x8017 1) .toOffer part))
          (fun t => decide (t.events.queue.map EventRecord.record = [some 3])) = true
      ∧ then' (exec (.segmentOffer 3) (reads2 (staleRecord part)))
          (fun t => decide (t.events.queue.map EventRecord.kind = [.staleRead])) = true := by
  decide +kernel

def behind (ph : HeadPhase) : State := atHead 3 (rd 0x4000 1) ph (withFill 4 (aFill .active 6 2) part)

theorem test_leadReadStalls_holds :
    ReadsGuard (behind .toOffer) (rd 0x4000 1) seg2 span2 ∧ ((behind .toOffer).cfg 2).mode ≠ .banked
      ∧ openFill (behind .toOffer) 2 0 = some 4 ∧ (behind .toOffer).fills[4].owner ≠ 3
      ∧ findHold (behind .toOffer) 3 2 0 = none
      ∧ Offered (behind .toOffer) 3 (rd 0x4000 1) seg2 ∧ Granted (behind .candidate) 3 (rd 0x4000 1) seg2
      ∧ ∀ n : Tag, n ≠ 3 → (behind .candidate).lanes[n].phase ≠ .candidate := by
  dsimp only [Offered, Granted, ReadsGuard]; and_intros <;> first | exact ⟨_, rfl⟩ | decide +kernel

/-- Master 3 reads the first word of record 0 of window 7. -/
def opensSnap : State := atHead 3 (rd 0x8018 1) .toOffer part
def seg7 : Segment := ⟨0, 1, .faceGuard 7 0⟩
def span7 : GuardSpan := ⟨7, 0, 0, 1⟩

theorem test_snapOpeningBinds_holds :
    Offered opensSnap 3 (rd 0x8018 1) seg7 ∧ ReadsGuard opensSnap (rd 0x8018 1) seg7 span7 ∧ span7.offset = 0
      ∧ (opensSnap.cfg 7).mode = .snap ∧ Live opensSnap 7 ∧ span7.length < (opensSnap.cfg 7).guardLen.toNat
      ∧ openFill opensSnap 7 0 = none ∧ findHold opensSnap 3 7 0 = none ∧ StaleAllows opensSnap 7 0
      ∧ tableFind (fun h : Hold => decide (h.state = .free)) opensSnap.holds = some 0 ∧ freeSlot opensSnap = some 0 := by
  dsimp only [Offered, ReadsGuard, Live, StaleAllows]; and_intros <;> first | exact ⟨_, rfl⟩ | decide +kernel

/-- Master 3's snapshot of record 0 of window 7 is OPEN, with coverage c, and it reads word 1. -/
def servesSnap (c : BitVec 16) (words : Nat) : State :=
  atHead 3 (rd 0x8019 words) .toOffer
    { withHold 1 { aHold .opened 3 7 with slot := some 2, coverage := c } part with
      slots := part.slots.set 2 (.loaded 1 4 [10, 11, 12, 13]) }

theorem test_slotServes_holds :
    let s := servesSnap 1 1
    let g : Segment := ⟨0, 1, .faceGuard 7 0⟩
    Offered s 3 (rd 0x8019 1) g ∧ ReadsGuard s (rd 0x8019 1) g ⟨7, 0, 1, 1⟩ ∧ (s.cfg 7).mode = .snap ∧ Live s 7
      ∧ OwnsNoFill s 3 7 0 ∧ findHold s 3 7 0 = some 1 ∧ s.holds[1].state = .opened ∧ s.holds[1].slot = some 2
      ∧ s.slots[2] = .loaded 1 4 [10, 11, 12, 13]
      ∧ covers 4 (s.holds[1].coverage ||| offsetSet 1 1) = false
      ∧ covers 4 ((servesSnap 1 3).holds[1].coverage ||| offsetSet 1 3) = true := by
  dsimp only [Offered, ReadsGuard, Live, OwnsNoFill]; and_intros <;> first | exact ⟨_, rfl⟩ | decide +kernel

/-- The last continuation takes words 1 to 3 of the slot and frees entry and slot. -/
theorem test_slotServes_last :
    then' (exec (.segmentOffer 3) (servesSnap 1 3)) (fun t => decide (t.holds[1] = .cleared ∧ t.slots[2] = .free
      ∧ t.lanes[3].reqs.map Request.words
          = [[.done ⟨11, .okay, .held⟩, .done ⟨12, .okay, .held⟩, .done ⟨13, .okay, .held⟩]])) = true := by
  decide +kernel

/-- Master 6 writes on in its WAITING fill; n words are parked. -/
def parks (n : Nat) : State :=
  writes2 6 { withFill 4 { aFill .waiting 6 2 with parked := n } part with
    park := List.replicate n ⟨some ⟨4, 1⟩, 6, 2, 0, 0, 1, ⟨0, 0⟩, .parked⟩ }

theorem test_waitingWrite_holds :
    Offered (parks 63) 6 (wr 0x4000 [full 7]) seg2 ∧ WritesGuard (parks 63) (wr 0x4000 [full 7]) seg2 span2 [full 7]
      ∧ mayProduce ((parks 63).cfg 2).producer 6 = true ∧ openFill (parks 63) 2 0 = some 4
      ∧ (parks 63).fills[4].owner = 6 ∧ (parks 63).fills[4].state = .waiting ∧ (parks 63).fills[4].abandoned = false
      ∧ covers 2 (parks 63).fills[4].coverage = false ∧ (parks 63).park.length + 1 ≤ 64
      ∧ Offered (parks 64) 6 (wr 0x4000 [full 7]) seg2 ∧ 64 < (parks 64).park.length + 1 := by
  dsimp only [Offered, WritesGuard]; and_intros <;> first | exact ⟨_, rfl⟩ | decide +kernel

/-- A hold of another master holds a fill of a SINGLE record back. -/
theorem held_back {s : State} {w : WindowNo} {r : Nat} {m : Tag} (i : HoldNo) (hm : (s.cfg w).mode = .single)
    (ho : OpenOn s w r i) (hne : s.holds[i].master ≠ m) : ∀ target, ¬ MayBeActive s w r m target := by
  intro target h
  simp only [MayBeActive, hm] at h
  exact hne (h.2 i ho)

/-- Where none does, the fill may be ACTIVE. -/
theorem not_held_back {s : State} {w : WindowNo} {r : Nat} {m : Tag} (hm : (s.cfg w).mode = .single)
    (h : ∀ i : HoldNo, OpenOn s w r i → s.holds[i].master = m) : MayBeActive s w r m none := by
  simp only [MayBeActive, hm]; exact ⟨trivial, h⟩

/-- Master 6 opens a fill of record 0, which master 3 holds; it has an entry of its own to give up; n words are parked. -/
def parksOpening (n : Nat) : State :=
  writes2 6 (withHold 1 (aHold .opened 3 2) (withHold 2 (aHold .broken 6 2)
    { part with park := List.replicate n ⟨none, 6, 2, 5, 5, 1, ⟨0, 0⟩, .released 0x4015⟩ }))

theorem test_waitingWrite_holds_opening :
    Offered (parksOpening 63) 6 (wr 0x4000 [full 7]) seg2
      ∧ WritesGuard (parksOpening 63) (wr 0x4000 [full 7]) seg2 span2 [full 7]
      ∧ mayProduce ((parksOpening 63).cfg 2).producer 6 = true ∧ Live (parksOpening 63) 2
      ∧ openFill (parksOpening 63) 2 0 = none ∧ freeFill (parksOpening 63) = some 0
      ∧ ((parksOpening 63).cfg 2).yieldPolicy = .readersFirst
      ∧ (∀ target, ¬ MayBeActive { parksOpening 63 with holds := givenUp (parksOpening 63) 6 2 0 } 2 0 6 target)
      ∧ (parksOpening 63).park.length + 1 ≤ 64
      ∧ Offered (parksOpening 64) 6 (wr 0x4000 [full 7]) seg2 ∧ 64 < (parksOpening 64).park.length + 1
      ∧ ∀ target, ¬ MayBeActive { parksOpening 64 with holds := givenUp (parksOpening 64) 6 2 0 } 2 0 6 target := by
  dsimp only [Offered, WritesGuard, Live]
  and_intros <;> first
    | exact ⟨_, rfl⟩
    | exact held_back 1 (by decide +kernel) (by dsimp only [OpenOn]; decide +kernel) (by decide +kernel)
    | decide +kernel

/-- The opening parks its word and gives the master's own entry up. -/
theorem test_waitingWrite_opens :
    then' (exec (.segmentOffer 6) (parksOpening 63)) (fun t => decide (t.fills[0].state = .waiting ∧ t.fills[0].parked = 1
      ∧ t.holds[2] = .cleared ∧ t.holds[1].state = .opened ∧ t.park.length = 64)) = true := by
  decide +kernel

/-- The first decision of an episode reports PARK_FULL. -/
theorem test_waitingWrite_full :
    then' (exec (.segmentOffer 6) (parks 64)) (fun t => decide (t.events.queue.map EventRecord.kind = [.parkFull]
      ∧ t.lanes[6].phase = .stalled (.parkRoom 2 0) ∧ t.park.length = 64)) = true := by
  decide +kernel

/-! ### Grants -/

def copyReq : CopyRequest := ⟨2, 1, 7, 0, 3, 0x8018, 4⟩
def withCopy (s : State) : State := { s with copies := [copyReq] }
def withPark (es : List ParkEntry) (s : State) : State := { s with park := es }
def inFlightOf (xs : List InFlight) (s : State) : State := { s with inFlight := xs }
def plainRead : InFlight := ⟨⟨0x10, .read 1⟩, .laneRead ⟨3, 0, 0, 1⟩ none []⟩
def leftover : ParkEntry := ⟨none, 6, 2, 0, 0, 1, full 7, .released 0x4001⟩

theorem test_arbiterOrder_holds :
    (withCopy part).Settled ∧ (withCopy part).copies ≠ []
      ∧ (withPark [leftover] part).Settled ∧ leftover.condition = .released 0x4001
      ∧ (inFlightOf (List.replicate 8 plainRead) part).Settled
      ∧ 8 ≤ (inFlightOf (List.replicate 8 plainRead) part).inFlight.length := by
  decide +kernel

/-- Lane 15 was granted last, so lane 0 comes before lane 3; after lane 0, lane 3 comes before lane 0. -/
theorem test_arbiterOrder_wrapsRound :
    let s := atHead 0 (rd 0x10 1) .candidate (atHead 3 (rd 0x10 1) .candidate part)
    nextLane s = some 0 ∧ nextLane { s with lastIssueLane := 0 } = some 3 := by
  decide +kernel

def bankOpen : State := withWindow 5 (live { banked with bankGuard := .openGuard }) part

theorem test_passingSegment_holds_outside :
    Passes part ⟨0, 2, .outside⟩ ∧ Offered (atHead 3 (rd 0x10 2) .toOffer part) 3 (rd 0x10 2) ⟨0, 2, .outside⟩
      ∧ Granted (atHead 3 (rd 0x10 2) .candidate part) 3 (rd 0x10 2) ⟨0, 2, .outside⟩
      ∧ Granted (atHead 3 (wr 0x10 [full 1]) .candidate part) 3 (wr 0x10 [full 1]) ⟨0, 1, .outside⟩ := by
  dsimp only [Offered, Granted]
  refine ⟨.inl rfl, ?_, ?_, ?_⟩ <;> decide +kernel

theorem test_passingSegment_holds_plain :
    Passes part ⟨0, 2, .facePlain 2 0⟩
      ∧ Granted (atHead 3 (rd 0x4002 2) .candidate part) 3 (rd 0x4002 2) ⟨0, 2, .facePlain 2 0⟩ := by
  dsimp only [Granted]
  exact ⟨.inr (.inl ⟨2, 0, rfl⟩), by decide +kernel⟩

theorem test_passingSegment_holds_bank :
    Passes bankOpen ⟨0, 1, .bankRange 5 1⟩
      ∧ Granted (atHead 3 (rd 0x8017 1) .candidate bankOpen) 3 (rd 0x8017 1) ⟨0, 1, .bankRange 5 1⟩ := by
  dsimp only [Granted]
  exact ⟨.inr (.inr ⟨5, 1, rfl, by decide +kernel⟩), by decide +kernel⟩

/-- The segment at the head of lane m is not one to issue. -/
def Unused (m : Tag) (s : State) : Prop :=
  ∃ q g, Granted s m q g ∧ ∀ how, decideSegment s m q g ≠ .issue how

theorem unused_of {s : State} {m : Tag} {q : Request} {g : Segment} {d : Decision}
    (h : Granted s m q g ∧ decideSegment s m q g = d) (hd : ∀ how, d ≠ .issue how) : Unused m s :=
  ⟨q, g, h.1, fun how => h.2 ▸ hd how⟩

/-- Lane 3 stalls at its grant, and lane 5 is a candidate with request q. -/
def goesOn (q : Request) : State := atHead 5 q .candidate (behind .candidate)

/-- What lane 3's other fate leaves: nothing; a candidate to issue; a candidate that stalls too; a copy request; a released
word. -/
theorem test_grantJudgesAgain_holds :
    Unused 3 (behind .candidate) ∧ Unused 3 (goesOn (rd 0x10 1)) ∧ Unused 3 (goesOn (rd 0x4000 1))
      ∧ Unused 3 (atHead 3 (rd 0x8018 1) .candidate part)
      ∧ Unused 3 (atHead 3 (rd 0x8019 3) .candidate (withPark [⟨some ⟨4, 1⟩, 6, 7, 0, 12, 1, full 7, .parked⟩]
          (withFill 4 { aFill .waiting 6 7 with parked := 1 } (servesSnap 1 3)))) := by
  refine ⟨unused_of (q := rd 0x4000 1) (g := seg2) (d := .stall (.behindFill 2 0)) ?_ nofun,
    unused_of (q := rd 0x4000 1) (g := seg2) (d := .stall (.behindFill 2 0)) ?_ nofun,
    unused_of (q := rd 0x4000 1) (g := seg2) (d := .stall (.behindFill 2 0)) ?_ nofun,
    unused_of (q := rd 0x8018 1) (g := seg7) (d := .bind 0 0) ?_ nofun,
    unused_of (q := rd 0x8019 3) (g := ⟨0, 3, .faceGuard 7 0⟩) (d := .serve 1) ?_ nofun⟩
  all_goals dsimp only [Granted]; decide +kernel

/-- The arbiter goes on: to lane 5, which issues or stalls; to the copy request; to the released word. -/
theorem test_grantJudgesAgain_goesOn :
    then' (exec .laneSegmentGrant (goesOn (rd 0x10 1))) (fun t => decide (t.inFlight.map InFlight.req = [⟨0x10, .read 1⟩]
        ∧ t.lastIssueLane = 5 ∧ t.lanes[3].phase = .stalled (.behindFill 2 0))) = true
      ∧ then' (exec .laneSegmentGrant (goesOn (rd 0x4000 1))) (fun t => decide (t.inFlight = [] ∧ t.lastIssueLane = 15
        ∧ t.lanes[5].phase = .stalled (.behindFill 2 0))) = true
      ∧ then' (exec .laneSegmentGrant (atHead 3 (rd 0x8018 1) .candidate part)) (fun t => decide (t.copies = []
        ∧ t.inFlight.map InFlight.req = [⟨0x8018, .read 4⟩] ∧ t.lanes[3].phase = .bound 1)) = true
      ∧ then' (exec .laneSegmentGrant (atHead 3 (rd 0x8019 3) .candidate
          (withPark [⟨some ⟨4, 1⟩, 6, 7, 0, 12, 1, full 7, .parked⟩]
            (withFill 4 { aFill .waiting 6 7 with parked := 1 } (servesSnap 1 3)))))
          (fun t => decide (t.park = [] ∧ t.inFlight.map InFlight.req = [⟨0x8019, .write [full 7]⟩])) = true := by
  decide +kernel

def opens2 : State := atHead 3 (rd 0x4000 1) .candidate part
def opens5 : State := atHead 3 (rd 0x4020 2) .candidate part

/-- Every entry is BROKEN for other records; entry 31 has the least linger. Or every entry is OPEN. -/
def lingers (r : Nat) (n : BitVec 16) : Hold := { aHold .broken 9 5 with record := r, countdown := n }
def noneFree (s : State) : State := { s with holds := (Vector.replicate 32 (lingers 0 7)).set 31 (lingers 1 6) }
def allOpen (s : State) : State := { s with holds := .replicate 32 (aHold .opened 9 5) }

/-- A read of word 0 of record 0 of window 2 that takes entry i. -/
def OpensIn (i : HoldNo) (s : State) : Prop :=
  Granted s 3 (rd 0x4000 1) seg2 ∧ ReadsGuard s (rd 0x4000 1) seg2 span2 ∧ MayOpen s 3 span2 ∧ (s.cfg 2).mode ≠ .snap
    ∧ Live s 2 ∧ span2.length < (s.cfg 2).guardLen.toNat ∧ (s.cfg 2).guardLen.toNat ≤ 16 ∧ Chosen s 3 2 0 i

/-- The entry is the lowest FREE one, the master's own BROKEN one, or the BROKEN one with the least linger. -/
theorem test_grantOpensHold_holds_single :
    OpensIn 0 opens2 ∧ OpensIn 4 (withHold 4 (aHold .broken 3 2) opens2) ∧ OpensIn 31 (noneFree opens2) := by
  dsimp only [OpensIn, Granted, ReadsGuard, Live, MayOpen, OwnsNoFill, StaleAllows, Chosen, SettledBroken]
  and_intros <;> first | exact ⟨_, rfl⟩ | decide +kernel

theorem test_grantOpensHold_holds_banked :
    Granted opens5 3 (rd 0x4020 2) ⟨0, 2, .faceGuard 5 0⟩ ∧ ReadsGuard opens5 (rd 0x4020 2) ⟨0, 2, .faceGuard 5 0⟩ ⟨5, 0, 0, 2⟩
      ∧ (opens5.cfg 5).mode = .banked ∧ Live opens5 5 ∧ 2 < (opens5.cfg 5).guardLen.toNat
      ∧ (opens5.cfg 5).guardLen.toNat ≤ 16 ∧ MayOpen opens5 3 ⟨5, 0, 0, 2⟩ ∧ Chosen opens5 3 5 0 0 := by
  dsimp only [Granted, ReadsGuard, Live, MayOpen, OwnsNoFill, StaleAllows, Chosen, SettledBroken]
  and_intros <;> first | exact ⟨_, rfl⟩ | decide +kernel

/-- A read of both guard words; one that finds every entry OPEN; a SNAP opening that finds every slot in use. -/
def opensWhole : State := atHead 3 (rd 0x4000 2) .candidate (withHold 4 (aHold .broken 3 2) part)
def noSlot : State := { atHead 3 (rd 0x8018 1) .candidate part with slots := .replicate 8 (.awaiting 9 4) }

theorem test_grantOpensHold_holds_whole :
    Granted opensWhole 3 (rd 0x4000 2) ⟨0, 2, .faceGuard 2 0⟩
      ∧ ReadsGuard opensWhole (rd 0x4000 2) ⟨0, 2, .faceGuard 2 0⟩ ⟨2, 0, 0, 2⟩ ∧ MayOpen opensWhole 3 ⟨2, 0, 0, 2⟩
      ∧ 2 = (opensWhole.cfg 2).guardLen.toNat := by
  dsimp only [Granted, ReadsGuard, MayOpen, OwnsNoFill, StaleAllows]
  and_intros <;> first | exact ⟨_, rfl⟩ | decide +kernel

theorem test_grantOpensHold_holds_denied :
    (Granted (allOpen opens2) 3 (rd 0x4000 1) seg2 ∧ ReadsGuard (allOpen opens2) (rd 0x4000 1) seg2 span2
        ∧ MayOpen (allOpen opens2) 3 span2 ∧ Live (allOpen opens2) 2 ∧ 1 ≠ ((allOpen opens2).cfg 2).guardLen.toNat
        ∧ ∀ i, ¬ Chosen (allOpen opens2) 3 2 0 i)
      ∧ Granted noSlot 3 (rd 0x8018 1) seg7 ∧ ReadsGuard noSlot (rd 0x8018 1) seg7 span7 ∧ MayOpen noSlot 3 span7
      ∧ Live noSlot 7 ∧ 1 ≠ (noSlot.cfg 7).guardLen.toNat ∧ (noSlot.cfg 7).mode = .snap ∧ Chosen noSlot 3 7 0 0
      ∧ ∀ k : SlotNo, noSlot.slots[k] ≠ .free := by
  dsimp only [Granted, ReadsGuard, Live, MayOpen, OwnsNoFill, StaleAllows, Chosen, SettledBroken]
  and_intros <;> first | exact ⟨_, rfl⟩ | decide +kernel

/-- A reclaimed entry, a replaced one given up to a whole read, and the two denials. -/
theorem test_grantOpensHold_entries :
    then' (exec .laneSegmentGrant (noneFree opens2)) (fun t => decide (t.holds[31].master = 3
        ∧ t.holds[31].state = .opened ∧ t.holds[0].state = .broken)) = true
      ∧ then' (exec .laneSegmentGrant opensWhole) (fun t => decide (t.holds[4] = .cleared)) = true
      ∧ then' (exec .laneSegmentGrant (allOpen opens2)) (fun t => decide (t.counters[2].holdsDenied = 1
        ∧ t.events.queue.map EventRecord.resource = [some .entry])) = true
      ∧ then' (exec .laneSegmentGrant noSlot) (fun t => decide (t.counters[7].holdsDenied = 1
        ∧ t.events.queue.map EventRecord.resource = [some .slot])) = true := by
  decide +kernel

/-- In BANKED the opening is issued in the active bank, which it pins. -/
theorem test_grantOpensHold_bank :
    then' (exec .laneSegmentGrant opens5) (fun t => decide (t.holds[0].pinnedBank = some 0
      ∧ t.inFlight.map InFlight.req = [⟨0x8000, .read 2⟩] ∧ t.lastIssueLane = 3)) = true := by
  decide +kernel

/-- Master 3 holds record 0 of window 5, pinned to bank 1, and reads word 1, or words 1 and 2. -/
def continues5 (n : Nat) : State :=
  atHead 3 (rd 0x4021 n) .candidate (withHold 1 { aHold .opened 3 5 with pinnedBank := some 1 } part)

theorem test_grantContinuesHold_holds :
    Granted (continues5 1) 3 (rd 0x4021 1) ⟨0, 1, .faceGuard 5 0⟩
      ∧ ReadsGuard (continues5 1) (rd 0x4021 1) ⟨0, 1, .faceGuard 5 0⟩ ⟨5, 0, 1, 1⟩ ∧ ((continues5 1).cfg 5).mode ≠ .snap
      ∧ Live (continues5 1) 5 ∧ OwnsNoFill (continues5 1) 3 5 0 ∧ findHold (continues5 1) 3 5 0 = some 1
      ∧ (continues5 1).holds[1].state = .opened
      ∧ covers 3 ((continues5 1).holds[1].coverage ||| offsetSet 1 1) = false
      ∧ Granted (continues5 2) 3 (rd 0x4021 2) ⟨0, 2, .faceGuard 5 0⟩
      ∧ covers 3 ((continues5 2).holds[1].coverage ||| offsetSet 1 2) = true := by
  dsimp only [Granted, ReadsGuard, Live, OwnsNoFill]
  and_intros <;> first | exact ⟨_, rfl⟩ | decide +kernel

/-- Master 3 reads word 1 of record 0 of window 2: its entry is BROKEN, or it has none. -/
def reads2word1 (s : State) : State := atHead 3 (rd 0x4001 1) .candidate s

theorem test_grantContinuesHold_holds_broken :
    let s := reads2word1 (withHold 4 (aHold .broken 3 2) part)
    Granted s 3 (rd 0x4001 1) seg2 ∧ ReadsGuard s (rd 0x4001 1) seg2 ⟨2, 0, 1, 1⟩ ∧ OwnsNoFill s 3 2 0
      ∧ findHold s 3 2 0 = some 4 ∧ s.holds[4].state = .broken
      ∧ Granted (reads2word1 part) 3 (rd 0x4001 1) seg2 ∧ ReadsGuard (reads2word1 part) (rd 0x4001 1) seg2 ⟨2, 0, 1, 1⟩
      ∧ OwnsNoFill (reads2word1 part) 3 2 0 ∧ findHold (reads2word1 part) 3 2 0 = none := by
  dsimp only [Granted, ReadsGuard, OwnsNoFill]
  and_intros <;> first | exact ⟨_, rfl⟩ | decide +kernel

/-- The broken continuation is TORN and covers the rest; the other is PLAIN. -/
theorem test_grantContinuesHold_broken :
    then' (exec .laneSegmentGrant (reads2word1 (withHold 4 (aHold .broken 3 2) part))) (fun t => decide (t.holds[4] = .cleared
        ∧ t.lanes[3].reqs.map Request.words = [[.pending .torn]])) = true
      ∧ then' (exec .laneSegmentGrant (reads2word1 part)) (fun t => decide (
        t.lanes[3].reqs.map Request.words = [[.pending .plain]])) = true := by
  decide +kernel

/-- Master 6 writes on in its ACTIVE fill; coverage c stands. -/
def fills2 (c : BitVec 16) : State :=
  atHead 6 (wr 0x4000 [full 7]) .candidate (withFill 4 { aFill .active 6 2 with coverage := c } part)

theorem test_grantContinuesFill_holds :
    Granted (fills2 0) 6 (wr 0x4000 [full 7]) seg2 ∧ WritesGuard (fills2 0) (wr 0x4000 [full 7]) seg2 span2 [full 7]
      ∧ mayProduce ((fills2 0).cfg 2).producer 6 = true ∧ Live (fills2 0) 2 ∧ openFill (fills2 0) 2 0 = some 4
      ∧ (fills2 0).fills[4].owner = 6 ∧ (fills2 0).fills[4].state = .active ∧ (fills2 0).fills[4].abandoned = false
      ∧ covers 2 (fills2 0).fills[4].coverage = false
      ∧ covers 2 ((fills2 0).fills[4].coverage ||| fullWrites 0 [full 7]) = false := by
  dsimp only [Granted, WritesGuard, Live]
  and_intros <;> first | exact ⟨_, rfl⟩ | decide +kernel

/-- Master 6 opens a fill of record 0 with n words: of window 2, with or without master 3's hold in the way, under
WRITER_FIRST; of window 5, whose other bank master 3 has pinned. -/
def opensFill2 (n : Nat) (s : State) : State :=
  atHead 6 (wr 0x4000 (List.replicate n (full 7))) .candidate (withWindow 2 (live { single with yieldPolicy := .writerFirst }) s)
def inWay2 : State := withHold 1 (aHold .opened 3 2) part
def opensFill5 (n : Nat) : State :=
  atHead 6 (wr 0x4020 (List.replicate n (full 7))) .candidate
    (withWindow 5 (live { banked with yieldPolicy := .writerFirst })
      (withHold 1 { aHold .opened 3 5 with pinnedBank := some 1 } part))

/-- Master 6 grants an opening of a fill in entry 0 of the record sp names, ACTIVE with this target bank. -/
def OpensFill (s : State) (q : Request) (sp : GuardSpan) (target : Option Bank) : Prop :=
  Granted s 6 q ⟨0, sp.length, .faceGuard sp.window sp.record⟩
    ∧ WritesGuard s q ⟨0, sp.length, .faceGuard sp.window sp.record⟩ sp (List.replicate sp.length (full 7))
    ∧ mayProduce (s.cfg sp.window).producer 6 = true ∧ Live s sp.window ∧ dirWf s.directory
    ∧ openFill s sp.window sp.record = none ∧ freeFill s = some 0 ∧ NoUnissuedCopy s sp.window sp.record
    ∧ OpensActive { s with holds := givenUp s 6 sp.window sp.record } sp.window sp.record 6 target

/-- At once; after a SINGLE hold, or a BANKED one, has yielded; with words uncovered, and with none. -/
theorem test_fillOpening_holds :
    (∀ n : Nat, n = 1 ∨ n = 2 → OpensFill (opensFill2 n part) (wr 0x4000 (List.replicate n (full 7))) ⟨2, 0, 0, n⟩ none
        ∧ OpensFill (opensFill2 n inWay2) (wr 0x4000 (List.replicate n (full 7))) ⟨2, 0, 0, n⟩ none)
      ∧ (∀ n : Nat, n = 1 ∨ n = 3 → OpensFill (opensFill5 n) (wr 0x4020 (List.replicate n (full 7))) ⟨5, 0, 0, n⟩ (some 1))
      ∧ covers 2 (fullWrites 0 (List.replicate 1 (full 7))) = false ∧ covers 2 (fullWrites 0 (List.replicate 2 (full 7))) = true
      ∧ covers 3 (fullWrites 0 (List.replicate 1 (full 7))) = false ∧ covers 3 (fullWrites 0 (List.replicate 3 (full 7))) = true := by
  have one : ∀ n : Nat, n = 1 ∨ n = 2 → MayBeActive
      { opensFill2 n part with holds := givenUp (opensFill2 n part) 6 2 0 } 2 0 6 none := by
    rintro _ (rfl | rfl) <;> exact not_held_back (by decide +kernel) (by dsimp only [OpenOn]; decide +kernel)
  have way : ∀ n : Nat, n = 1 ∨ n = 2 → ∀ target, ¬ MayBeActive
      { opensFill2 n inWay2 with holds := givenUp (opensFill2 n inWay2) 6 2 0 } 2 0 6 target := by
    rintro _ (rfl | rfl) <;> exact held_back 1 (by decide +kernel) (by dsimp only [OpenOn]; decide +kernel) (by decide +kernel)
  have pin : ∀ n : Nat, n = 1 ∨ n = 3 → ∀ target, ¬ MayBeActive
      { opensFill5 n with holds := givenUp (opensFill5 n) 6 5 0 } 5 0 6 target := by
    rintro _ (rfl | rfl) target h
    · have hm : (({ opensFill5 1 with holds := givenUp (opensFill5 1) 6 5 0 } : State).cfg 5).mode = .banked := by decide +kernel
      simp only [MayBeActive, hm] at h
      obtain ⟨k, -, hk, -⟩ := h
      revert k; dsimp only [Spare, OpenOn]; decide +kernel
    · have hm : (({ opensFill5 3 with holds := givenUp (opensFill5 3) 6 5 0 } : State).cfg 5).mode = .banked := by decide +kernel
      simp only [MayBeActive, hm] at h
      obtain ⟨k, -, hk, -⟩ := h
      revert k; dsimp only [Spare, OpenOn]; decide +kernel
  refine ⟨fun n hn => ⟨?_, ?_⟩, fun n hn => ?_, by decide +kernel⟩
  · have h := one n hn
    obtain rfl | rfl := hn <;> refine ⟨?_, ⟨⟨_, rfl⟩, ?_⟩, ?_, ?_, ?_, ?_, ?_, ?_, .inl h⟩ <;>
      first | decide +kernel | (dsimp only [Granted, Live, dirWf, NoUnissuedCopy]; decide +kernel)
  · have h := way n hn
    obtain rfl | rfl := hn <;>
      refine ⟨?_, ⟨⟨_, rfl⟩, ?_⟩, ?_, ?_, ?_, ?_, ?_, ?_, .inr ⟨h, ?_, .inl ?_⟩⟩ <;>
      first | decide +kernel | (dsimp only [Granted, Live, dirWf, NoUnissuedCopy]; decide +kernel)
  · have h := pin n hn
    obtain rfl | rfl := hn <;>
      refine ⟨?_, ⟨⟨_, rfl⟩, ?_⟩, ?_, ?_, ?_, ?_, ?_, ?_, .inr ⟨h, ?_, .inr ?_⟩⟩ <;>
      first | decide +kernel | (dsimp only [Granted, Live, dirWf, NoUnissuedCopy]; decide +kernel)

/-- The hold in the way yields; a write of every guard word publishes at once. -/
theorem test_fillOpening_opens :
    then' (exec .laneSegmentGrant (opensFill2 1 inWay2)) (fun t => decide (t.fills[0].state = .active
        ∧ t.fills[0].generation = 1 ∧ t.holds[1].reason = some .yielded ∧ t.counters[2].holdsBroken = 1
        ∧ t.events.queue.map EventRecord.kind = [.holdYielded])) = true
      ∧ then' (exec .laneSegmentGrant (opensFill5 3)) (fun t => decide (t.fills[0] = .cleared 1 ∧ t.holds[1].state = .broken
        ∧ (t.dirEntry 5 0).activeBank = 1 ∧ t.inFlight.map InFlight.req
          = [⟨0x800C, .write (List.replicate 3 (full 7))⟩])) = true := by
  decide +kernel

theorem test_completingWrite_holds :
    Granted (fills2 2) 6 (wr 0x4000 [full 7]) seg2 ∧ WritesGuard (fills2 2) (wr 0x4000 [full 7]) seg2 span2 [full 7]
      ∧ mayProduce ((fills2 2).cfg 2).producer 6 = true ∧ Live (fills2 2) 2 ∧ dirWf (fills2 2).directory
      ∧ openFill (fills2 2) 2 0 = some 4 ∧ (fills2 2).fills[4].owner = 6 ∧ (fills2 2).fills[4].state = .active
      ∧ (fills2 2).fills[4].abandoned = false ∧ (fills2 2).fills[4].parked = 0
      ∧ covers 2 (fills2 2).fills[4].coverage = false
      ∧ covers 2 ((fills2 2).fills[4].coverage ||| fullWrites 0 [full 7]) = true := by
  dsimp only [Granted, WritesGuard, Live, dirWf]
  and_intros <;> first | exact ⟨_, rfl⟩ | decide +kernel

theorem test_completingWrite_publishes :
    then' (exec .laneSegmentGrant (fills2 2)) (fun t => decide (t.directory = [(0, ⟨0, 1, true, false, false, 0⟩)]
      ∧ t.fills[4] = .cleared 1 ∧ t.counters[2].fillsPublished = 1 ∧ t.events.queue = [])) = true := by
  decide +kernel

theorem test_copyGrant_holds : (withCopy part).Settled ∧ (withCopy part).inFlight.length < 8 := by decide +kernel

theorem test_copyGrant_issues :
    then' (exec .copyRequestGrant (withCopy part)) (fun t => decide (t.copies = []
      ∧ t.inFlight.map InFlight.req = [⟨0x8018, .read 4⟩])) = true := by
  decide +kernel

/-- Two words of master 6's fill of record 0 of window 2 are RELEASED; or the last one, with complete coverage. -/
def released : ParkEntry := ⟨some ⟨4, 1⟩, 6, 2, 0, 0, 1, full 7, .released 0x4001⟩
def releases (n : Nat) : State :=
  withPark (List.replicate n released) (withFill 4 { aFill .active 6 2 with parked := n, coverage := 3 } part)

theorem test_releaseGrant_holds :
    ((withPark [leftover] part).Settled ∧ leftover.fill = none ∧ Live part leftover.window)
      ∧ ((releases 2).Settled ∧ released.condition = .released 0x4001 ∧ refersTo ⟨4, 1⟩ (releases 2) = true
        ∧ 1 < (releases 2).fills[4].parked)
      ∧ ((releases 1).Settled ∧ (releases 1).copies = [] ∧ (releases 1).inFlight.length < 8
        ∧ refersTo ⟨4, 1⟩ (releases 1) = true ∧ (releases 1).fills[4].state = .active ∧ (releases 1).fills[4].parked = 1
        ∧ (releases 1).fills[4].abandoned = false ∧ dirWf (releases 1).directory
        ∧ covers 2 (releases 1).fills[4].coverage = true) := by
  dsimp only [Live, dirWf]; decide +kernel

theorem test_releaseGrant_publishes :
    then' (exec .parkReleaseGrant (releases 1)) (fun t => decide (t.park = [] ∧ t.fills[4] = .cleared 1
      ∧ t.inFlight.map InFlight.req = [⟨0x4001, .write [full 7]⟩]
      ∧ t.directory = [(0, ⟨0, 1, true, false, false, 0⟩)])) = true := by
  decide +kernel

/-! ### Responses and delivery -/

/-- Master 3 waits for the word of a plain read. -/
def waits : State :=
  inFlightOf [plainRead] { part with
    lanes := part.lanes.set 3 ⟨[{ rd 0x10 1 with words := [.pending .plain] }], 1, .idle, false, false⟩ }

theorem test_readResponse_holds :
    waits.Settled ∧ plainRead.origin = .laneRead ⟨3, 0, 0, 1⟩ none [] ∧ [MemBeat.mk 9 .fault].length = 1 := by
  decide +kernel

theorem test_readResponse_answers :
    then' (exec (.segmentResponse (.read [⟨9, .fault⟩])) waits) (fun t => decide (t.inFlight = []
      ∧ t.responseGrant = some 3 ∧ t.lanes[3].reqs.map Request.words = [[.done ⟨9, .fault, .plain⟩]])) = true := by
  decide +kernel

/-- Master 6 reads word 0 in its own fill, with a parked word for byte 0 of it. -/
def ownView (st : FillState) : State :=
  atHead 6 (rd 0x4000 1) .candidate (withPark [⟨some ⟨4, 1⟩, 6, 2, 0, 0, 0, ⟨0x1122, 1⟩, .parked⟩]
    (withFill 4 { aFill st 6 2 with parked := 1 } part))

theorem test_readResponse_holds_ownView :
    (Granted (ownView .waiting) 6 (rd 0x4000 1) seg2 ∧ ReadsGuard (ownView .waiting) (rd 0x4000 1) seg2 span2
        ∧ openFill (ownView .waiting) 2 0 = some 4 ∧ (ownView .waiting).fills[4].owner = 6
        ∧ (ownView .waiting).fills[4].target = none)
      ∧ Granted (ownView .active) 6 (rd 0x4000 1) seg2 ∧ ReadsGuard (ownView .active) (rd 0x4000 1) seg2 span2
      ∧ openFill (ownView .active) 2 0 = some 4 ∧ (ownView .active).fills[4].target = none := by
  dsimp only [Granted, ReadsGuard]; and_intros <;> first | exact ⟨_, rfl⟩ | decide +kernel

/-- Byte 0 comes from the parked word, the rest from memory. -/
theorem test_readResponse_overlay :
    then' (exec .laneSegmentGrant (ownView .waiting)) (fun t =>
      then' (exec (.segmentResponse (.read [⟨0xAABBCCDD, .okay⟩])) t) fun u =>
        decide (u.lanes[6].reqs.map Request.words = [[.done ⟨0xAABBCC22, .okay, .plain⟩]])) = true := by
  decide +kernel

def fillWrite : InFlight := ⟨⟨0x4000, .write [full 7]⟩, .laneWrite ⟨6, 0, 0, 1⟩ (some ⟨2, 0, 0, ⟨4, 1⟩⟩)⟩
def writesOut (f : Fill) : State := inFlightOf [fillWrite] (withFill 4 f part)

theorem test_fillWriteFault_holds :
    (writesOut (aFill .active 6 2)).Settled ∧ dirWf (writesOut (aFill .active 6 2)).directory
      ∧ refersTo ⟨4, 1⟩ (writesOut (aFill .active 6 2)) = true
      ∧ refersTo ⟨4, 1⟩ (writesOut { aFill .active 6 2 with generation := 2 }) = false
      ∧ (inFlightOf [⟨⟨0x10, .write [full 7]⟩, .laneWrite ⟨6, 0, 0, 1⟩ none⟩] part).Settled := by
  dsimp only [dirWf]; decide +kernel

theorem test_stopsByName_holds :
    burstOk 0 = false ∧ burstOk 17 = false ∧ (0x7E : Byte) ∈ commandCodes ∧ waits.Settled
      ∧ [MemBeat.mk 9 .okay, MemBeat.mk 9 .okay].length ≠ 1 := by
  decide +kernel

/-- Master 3's copy of record 0 of window 7 is in flight; its lead read of b words is bound to it. -/
def copying (orphan : Bool) (b : Nat) : State :=
  atHead 3 (rd 0x8018 b) (.bound b)
    (inFlightOf [⟨⟨0x8018, .read 4⟩, .copy 2 1 7 0 3 orphan⟩]
      { withHold 1 { aHold .copying 3 7 with slot := some 2, coverage := 0 } part with
        slots := part.slots.set 2 (.awaiting 1 4) })

def okays : List MemBeat := [⟨10, .okay⟩, ⟨11, .okay⟩, ⟨12, .okay⟩, ⟨13, .okay⟩]

theorem test_copyReturn_holds :
    (copying false 1).Settled ∧ okays.length = 4 ∧ (∀ y ∈ okays, y.status = .okay)
      ∧ (copying false 1).holds[1].state = .copying ∧ (copying false 1).holds[1].window = 7
      ∧ (copying false 1).holds[1].record = 0 ∧ Live (copying false 1) 7
      ∧ (copying false 1).lanes[3].phase = .bound 1
      ∧ covers 4 ((copying false 1).holds[1].coverage ||| offsetSet 0 1) = false := by
  dsimp only [Live]; decide +kernel

/-- The entry was broken while its copy was out, has left service or not; or the copy is orphaned. -/
def copyBroken (b : Nat) (left : Bool) : State :=
  withHold 1 { aHold .broken 3 7 with slot := some 2, coverage := 0, leftService := left } (copying false b)

theorem test_copyReturn_holds_broken :
    (copyBroken 1 false).Settled ∧ (copyBroken 1 false).holds[1].state = .broken
      ∧ (copyBroken 1 false).lanes[3].phase = .bound 1 ∧ (copyBroken 1 false).holds[1].leftService = false
      ∧ covers 4 ((copyBroken 1 false).holds[1].coverage ||| offsetSet 0 1) = false
      ∧ (copyBroken 1 true).holds[1].leftService = true
      ∧ (copyBroken 4 false).Settled ∧ covers 4 ((copyBroken 4 false).holds[1].coverage ||| offsetSet 0 4) = true
      ∧ (copying true 1).Settled ∧ (copying true 1).lanes[3].phase = .bound 1 := by
  decide +kernel

theorem test_copyReturn_broken :
    then' (exec (.copyResponse okays) (copyBroken 1 false)) (fun t => decide (t.holds[1].state = .broken
        ∧ t.holds[1].slot = none ∧ t.holds[1].coverage = 1 ∧ t.slots[2] = .free
        ∧ t.lanes[3].reqs.map Request.words = [[.done ⟨10, .okay, .torn⟩]])) = true
      ∧ then' (exec (.copyResponse okays) (copyBroken 1 true)) (fun t => decide (t.holds[1] = .cleared)) = true
      ∧ then' (exec (.copyResponse okays) (copying true 1)) (fun t => decide (t.slots[2] = .awaiting 1 4
        ∧ t.lanes[3].reqs.map Request.words = [[.done ⟨10, .okay, .plain⟩]])) = true := by
  decide +kernel

theorem test_copyReturn_opens :
    then' (exec (.copyResponse okays) (copying false 1)) (fun t => decide (t.holds[1].state = .opened
      ∧ t.slots[2] = .loaded 1 4 [10, 11, 12, 13]
      ∧ t.lanes[3].reqs.map Request.words = [[.done ⟨10, .okay, .held⟩]])) = true := by
  decide +kernel

theorem test_copyFault_holds :
    (copying false 1).Settled ∧ (copying true 1).Settled ∧ (part.windows[7]).isDraining = false
      ∧ [MemBeat.mk 0 .fault, ⟨0, .okay⟩, ⟨0, .okay⟩, ⟨0, .okay⟩].length = 4 := by
  decide +kernel

theorem test_copyFault_frees :
    then' (exec (.copyResponse [⟨0, .fault⟩, ⟨0, .okay⟩, ⟨0, .okay⟩, ⟨0, .okay⟩]) (copying false 1))
      (fun t => decide (t.holds[1] = .cleared ∧ t.slots[2] = .free
        ∧ t.events.queue.map EventRecord.kind = [.copyFault])) = true := by
  decide +kernel

def releaseOut : State :=
  inFlightOf [⟨⟨0x4001, .write [full 7]⟩, .release (some ⟨4, 1⟩) 2 0 0 6 1⟩] (withFill 4 (aFill .active 6 2) part)

theorem test_releaseResponse_holds :
    releaseOut.Settled ∧ dirWf releaseOut.directory ∧ refersTo ⟨4, 1⟩ releaseOut = true := by
  dsimp only [dirWf]; decide +kernel

theorem test_releaseResponse_fault :
    then' (exec (.parkReleaseResponse .fault) releaseOut) (fun t => decide (t.fills[4].writeFaulted = true
      ∧ t.directory = [(0, ⟨0, 0, false, false, true, 0⟩)])) = true := by
  decide +kernel

theorem test_eventsThatCannotOccur_holds :
    part.Settled ∧ part.inFlight = [] ∧ part.responseGrant = none ∧ part.pendingSweeps = 0
      ∧ holdRanOut part 31 = false ∧ lingerRanOut part 31 = false ∧ fillRanOut part 15 = false ∧ drainRanOut part 15 = false := by
  decide +kernel

/-- Lane 3 holds the grant: a read of two words, or a write one of whose segments was refused. -/
def answeredRead : Request := { rd 0x10 2 with words := [.done ⟨1, .okay, .plain⟩, .done ⟨2, .fault, .held⟩] }
def answeredWrite : Request := { wr 0x10 [full 1, full 2] with words := [.done ⟨0, .okay, .plain⟩, .done ⟨0, .fault, .plain⟩] }
def delivers (q : Request) : State := { atHead 3 q .idle part with responseGrant := some 3 }

theorem test_delivery_holds :
    (delivers answeredRead).Settled ∧ answeredRead.complete = true ∧ answeredRead.body = .read 2
      ∧ (delivers answeredWrite).Settled ∧ answeredWrite.complete = true ∧ answeredWrite.body = .write [full 1, full 2] := by
  decide +kernel

theorem test_delivery_delivers :
    then' (exec .responseDelivery (delivers answeredRead)) (fun t => decide (t.lanes[3].reqs = []
        ∧ t.delivered = some (.read 3 [⟨1, .okay, .plain⟩, ⟨2, .fault, .held⟩]) ∧ t.responseGrant = none)) = true
      ∧ then' (exec .responseDelivery (delivers answeredWrite)) (fun t => decide (t.delivered = some (.write 3 .fault))) = true := by
  decide +kernel

/-! ### Time -/

def stoppedPart : State := { part with timeBase := ⟨7, 8, .stopped⟩ }

theorem test_tickCountsDown_holds :
    stoppedPart.Settled ∧ stoppedPart.resetLow = false ∧ stoppedPart.timeBase.run = .stopped
      ∧ part.Settled ∧ part.resetLow = false ∧ part.timeBase.run = .running
      ∧ (withWindow 2 { live single with state := .draining 1 false } part).windows[2].state = .draining 1 false
      ∧ ∀ n, part.windows[2].state ≠ .draining n false := by
  have h : part.windows[2].state = .live := by decide +kernel
  refine ⟨?_, ?_, ?_, ?_, ?_, ?_, ?_, fun n => by rw [h]; nofun⟩ <;> decide +kernel

/-- The age countdown of an unread record counts; the latency loads where the tick's own report is the first record. -/
theorem test_tick_countsAge :
    let s := { part with events := ⟨[⟨.drainDone, some 2, none, none, none, 0, 0⟩], 0, none, ⟨0x3FFEF, 2, 5⟩, 1⟩ }
    let o := { part with
      timeBase := ⟨9999, 8, .running⟩, pendingSweeps := 0x80, sweep := some ⟨2, 0, 0, none⟩, events := ⟨[], 0, none, ⟨0x3FFFF, 2, 5⟩, 0⟩ }
    s.Settled ∧ s.events.queue ≠ [] ∧ s.events.control.latency ≠ 0
      ∧ then' (exec .tick s) (fun t => decide (t.events.age = 0 ∧ t.alertLow = false)) = true
      ∧ o.Settled ∧ o.events.queue = []
      ∧ then' (exec .tick o) (fun t => decide (t.events.queue.map EventRecord.kind = [.sweepOverrun] ∧ t.events.age = 5)) = true := by
  decide +kernel

/-- A countdown of 1 falls to 0 at a tick, and what it runs out is due then; a broken hold lingers on. -/
theorem test_tick_countsHolds :
    let s := withHold 1 { aHold .opened 3 2 with countdown := 1 } (withHold 2 { aHold .broken 5 2 with countdown := 9 } part)
    then' (exec .tick s) (fun t => decide (t.timeBase.value = 1 ∧ t.holds[1].countdown = 0 ∧ t.holds[2].countdown = 8
      ∧ dueSteps t = [.hold 1])) = true := by
  decide +kernel

/-- The time base one tick before the deadline of window 7. -/
def beforeMatch : State := { part with timeBase := ⟨9999, 8, .running⟩ }
def onceBeforeMatch : State := withWindow 7 { live snap with curFresh := .once } beforeMatch

theorem test_tickMatches_holds :
    beforeMatch.Settled ∧ beforeMatch.resetLow = false ∧ beforeMatch.timeBase.run = .running
      ∧ (∃ t, exec .tick beforeMatch = .next t)
      ∧ beforeMatch.windows[7].decoded = true ∧ beforeMatch.windows[7].curFresh = .repeating
      ∧ beforeMatch.windows[7].curDeadline = beforeMatch.timeBase.value + 1
      ∧ onceBeforeMatch.Settled ∧ onceBeforeMatch.windows[7].curFresh = .once ∧ part.windows[2].curFresh = .off := by
  and_intros <;> first | exact ⟨_, rfl⟩ | decide +kernel

/-- Window 7 matches while its sweep is pending, or runs. -/
theorem test_tickMatches_holds_overrun :
    let p : State := { beforeMatch with pendingSweeps := 0x80, sweep := some ⟨2, 0, 0, none⟩ }
    let r : State := { beforeMatch with sweep := some ⟨7, 3, 0, none⟩ }
    p.Settled ∧ hasBit p.pendingSweeps 7 = true
      ∧ then' (exec .tick p) (fun t => decide (t.events.queue.map EventRecord.kind = [.sweepOverrun])) = true
      ∧ r.Settled ∧ then' (exec .tick r) (fun t => decide (t.events.queue.map EventRecord.kind = [.sweepOverrun]
        ∧ t.pendingSweeps = 0)) = true := by
  decide +kernel

theorem test_tick_matches :
    then' (exec .tick beforeMatch) (fun t => decide (t.windows[7].curDeadline = 30000 ∧ dueSteps t = [.sweep])) = true := by
  decide +kernel

def holdOut : State := withHold 1 { aHold .opened 3 2 with countdown := 0 } part
def lingerOut : State := withHold 1 { aHold .broken 3 2 with countdown := 0 } part

theorem test_holdExpiry_holds :
    (holdOut.holds[1].countdown = 0 ∧ holdOut.holds[1].state = .opened ∧ (holdOut.cfg 2).holdLimit ≠ 0 ∧ Live holdOut 2)
      ∧ (lingerOut.holds[1].countdown = 0 ∧ lingerOut.holds[1].state = .broken ∧ lingerOut.holds[1].slot = none) := by
  dsimp only [Live]; decide +kernel

/-- Master 6's fill waits for that hold with one parked word; and for another hold too. -/
def holdOutWaited : State :=
  withPark [⟨some ⟨4, 1⟩, 6, 2, 0, 0, 1, full 7, .parked⟩] (withFill 4 { aFill .waiting 6 2 with parked := 1 } holdOut)

/-- Both cases of the test that follows: the fill may be ACTIVE when entry 1 is BROKEN, or another hold keeps it back. -/
theorem test_holdExpiry_holds_fill :
    let broken := fun s : State => withHold 1 (aHold .broken 3 2) s
    openFill (broken holdOutWaited) 2 0 = some 4 ∧ (broken holdOutWaited).fills[4].state = .waiting
      ∧ MayBeActive (broken holdOutWaited) 2 0 6 none
      ∧ ∀ target, ¬ MayBeActive (broken (withHold 2 (aHold .opened 5 2) holdOutWaited)) 2 0 6 target := by
  refine ⟨by decide +kernel, by decide +kernel, not_held_back (by decide +kernel) ?_, held_back 2 (by decide +kernel) ?_ ?_⟩
  · dsimp only [OpenOn]; decide +kernel
  · dsimp only [OpenOn]; decide +kernel
  · decide +kernel

theorem test_holdExpiry_activates :
    then' (exec (.holdExpired 1) holdOutWaited) (fun t => decide (t.fills[4].state = .active ∧ t.fills[4].countdown = 300
      ∧ t.park.map ParkEntry.condition = [.released 0x4001])) = true := by
  decide +kernel

theorem test_holdExpiry_breaks :
    then' (exec (.holdExpired 1) holdOut) (fun t => decide (t.holds[1].state = .broken ∧ t.holds[1].countdown = 40
      ∧ t.counters[2].holdsBroken = 1 ∧ t.events.queue.map EventRecord.kind = [.holdExpired])) = true
      ∧ then' (exec (.lingerExpiry 1) lingerOut) (fun t => decide (t.holds[1] = .cleared)) = true := by
  decide +kernel

def fillOut : State := withFill 4 { aFill .active 6 2 with countdown := 0 } part

theorem test_fillExpiry_holds :
    fillOut.fills[4].state = .active ∧ fillOut.fills[4].abandoned = false ∧ fillOut.fills[4].countdown = 0
      ∧ (fillOut.cfg 2).fillLimit ≠ 0 ∧ Live fillOut 2 ∧ dirWf fillOut.directory := by
  dsimp only [Live, dirWf]; decide +kernel

theorem test_fillExpiry_abandons :
    then' (exec (.fillExpiry 4) fillOut) (fun t => decide (t.fills[4] = .cleared 1 ∧ t.counters[2].fillsAbandoned = 1
      ∧ t.directory = [(0, ⟨0, 0, false, false, true, 0⟩)])) = true := by
  decide +kernel

/-- Window 2 drains, its countdown has run out, and master 3's hold and master 6's waiting fill are in the way. -/
def drainsOut : State :=
  withWindow 2 { live single with state := .draining 0 false }
    (withHold 1 (aHold .opened 3 2) (withFill 4 (aFill .waiting 6 2) part))

theorem drainsOut_coherent : Coherent drainsOut := by
  constructor <;> first | decide +kernel | (dsimp only [HoldsDistinct, FillsDistinct, InService, sameRecord]; decide +kernel)

theorem test_drainExpiry_holds :
    Coherent drainsOut ∧ dirWf drainsOut.directory ∧ drainsOut.windows[2].state = .draining 0 false :=
  ⟨drainsOut_coherent, by dsimp only [dirWf]; decide +kernel, by decide +kernel⟩

theorem test_drainExpiry_forces :
    then' (exec (.drainCountdownExpiry 2) drainsOut) (fun t => decide (t.windows[2].state = .off ∧ t.holds[1] = .cleared
      ∧ t.fills[4] = .cleared 1
      ∧ t.events.queue.map EventRecord.kind = [.fillAbandoned, .drainForced, .drainDone])) = true := by
  decide +kernel

def anEvent : EventRecord := ⟨.drainDone, some 2, none, none, none, 0, 0⟩
/-- One unread record, threshold 2, latency 5, and the age countdown at 0. -/
def aged : State := { part with events := ⟨[anEvent], 0, none, ⟨0x3FFEF, 2, 5⟩, 0⟩ }

theorem test_alert_holds : aged.events.control.latency ≠ 0 ∧ aged.events.queue ≠ [] ∧ aged.events.age = 0 := by
  decide +kernel

/-- One unread record below the threshold, at latency 5 and age 1, before a TICK and before a read of it; and with the age
countdown run out, at which ALERT_N is low. -/
def ageing (age : BitVec 16) (low : Bool) (c : Instr) : State :=
  linked { part with events := ⟨[anEvent], 0, none, ⟨0x3FFEF, 2, 5⟩, age⟩, alertLow := low, pending := [c] }

theorem test_alert_holds_steps :
    (ControlOk (ageing 1 false .tick) ∧ AlertFollows (ageing 1 false .tick) ∧ ∃ t, step (ageing 1 false .tick) = .next t)
      ∧ ControlOk (ageing 0 true (.readEvents (frameOf 0x28 [1])))
      ∧ AlertFollows (ageing 0 true (.readEvents (frameOf 0x28 [1])))
      ∧ ∃ t, step (ageing 0 true (.readEvents (frameOf 0x28 [1]))) = .next t := by
  dsimp only [ControlOk, AlertFollows]; and_intros <;> first | exact ⟨_, rfl⟩ | decide +kernel

/-- The tick leaves ALERT_N high, ALERT_AGE_EXPIRY drives it low, and the read of the record releases it. -/
theorem test_alert_follows :
    then' (step (ageing 1 false .tick)) (fun t => !t.alertLow && t.events.alertCondition
        && then' (exec .alertAgeExpiry t) State.alertLow) = true
      ∧ then' (step (ageing 0 true (.readEvents (frameOf 0x28 [1])))) (fun t => !t.alertLow) = true := by
  decide +kernel

def pendingPart : State := { part with pendingSweeps := 0x84 }

theorem test_sweepStart_holds :
    pendingPart.sweep = none ∧ hasBit pendingPart.pendingSweeps 2 = true
      ∧ ∀ v : WindowNo, hasBit pendingPart.pendingSweeps v = true → 2 ≤ v := by
  decide +kernel

/-- The sweep of window 2 is at record r; record 7 is FRESH. -/
def sweeps (r n : Nat) : State :=
  { part with sweep := some ⟨2, r, n, none⟩, directory := [(7, ⟨0, 1, true, false, false, 5⟩)] }

theorem test_sweepVisit_holds :
    (sweeps 6 0).Settled ∧ dirWf (sweeps 6 0).directory ∧ 6 + 1 < ((sweeps 6 0).cfg 2).count.toNat
      ∧ (sweeps 7 1).Settled ∧ dirWf (sweeps 7 1).directory ∧ ((sweeps 7 1).cfg 2).count.toNat ≤ 7 + 1 := by
  dsimp only [dirWf]; decide +kernel

theorem test_sweepVisit_marks :
    then' (exec .sweepVisit (sweeps 6 0)) (fun t => decide (t.sweep = some ⟨2, 7, 1, some 6⟩
        ∧ t.directory = [(6, ⟨0, 0, false, true, false, 0⟩), (7, ⟨0, 1, true, false, false, 5⟩)])) = true
      ∧ then' (exec .sweepVisit (sweeps 7 1)) (fun t => decide (t.sweep = none
        ∧ t.directory = [(7, ⟨0, 1, false, false, false, 5⟩)]
        ∧ t.events.queue.map EventRecord.kind = [.staleSweep])) = true := by
  decide +kernel

/-- Window 2 drains with a broken hold left. -/
def drainsEmpty : State :=
  withWindow 2 { live single with state := .draining 9 false } (withHold 1 (aHold .broken 3 2) part)

theorem test_drainCompletes_holds :
    drainsEmpty.windows[2].state = .draining 9 false ∧ holdsInForce drainsEmpty 2 = [] ∧ fillsOf drainsEmpty 2 = []
      ∧ ∀ e ∈ drainsEmpty.park, e.window ≠ 2 := by
  decide +kernel

theorem test_drainCompletes_completes :
    then' (exec (.drainCompletion 2) drainsEmpty) (fun t => decide (t.windows[2].state = .off ∧ t.holds[1] = .cleared)) = true := by
  decide +kernel

/-! ### The link -/

theorem test_frameStart_holds : part.resetLow = false ∧ part.link.csLow = false ∧ FrameOpen (linked part) := by
  dsimp only [FrameOpen]; decide +kernel

theorem test_badFrames_holds :
    FrameOpen (linked part) ∧ (0x7F : Byte) ∉ commandCodes
      ∧ ([] : List Byte).length ≠ 0 + 1 ∧ ([0x07, 0x00] : List Byte).length ≠ 0 + 1
      ∧ ([0x06] : List Byte).getLast? ≠ some (checkByte [0x01]) := by
  dsimp only [FrameOpen]; decide +kernel

/-- STATUS with a wrong check byte, and one cut short. -/
theorem test_badFrames_store :
    then' (exec (.status [0x0F]) (linked part)) (fun t => decide (t.link.holder = some ⟨.checkFailed, 0x02, []⟩)) = true
      ∧ then' (exec (.status []) (linked part)) (fun t => decide (t.link.holder = some ⟨.lengthError, 0x02, []⟩)) = true := by
  decide +kernel

theorem test_fetch_holds : FrameOpen (linked part) ∧ (0x7C : Byte) ≠ 0x7D := by
  dsimp only [FrameOpen]; decide +kernel

/-- A FETCH of an EMPTY holder clocks out the response NONE. -/
theorem test_fetch_none :
    then' (exec (.fetch [0x7D, 0, 0, 0, 0]) (linked part)) (fun t => decide (t.link.holder = none
      ∧ t.link.miso = [0, 0, 0, 0, 0, 0])) = true := by
  decide +kernel

theorem test_frameArrives_holds : FrameArrives (linked part) := by
  dsimp only [FrameArrives, FrameOpen]; decide +kernel

theorem test_readHold_holds : FrameArrives (linked part) ∧ (31 : Byte).toNat < 32 ∧ 32 ≤ (32 : Byte).toNat :=
  ⟨test_frameArrives_holds, by decide⟩

/-- A frame in which window 3, still OFF, is configured. -/
theorem test_windowWritten_holds :
    FrameArrives (linked part) ∧ (linked part).windows[3].state = .off ∧ (linked part).windows[2].state ≠ .off
      ∧ (configBytes single).length = 43 ∧ 16 ≤ (16 : Byte).toNat
      ∧ parseConfig (.ofNat 8 3 :: (3 :: (configBytes single).drop 1)) = none :=
  ⟨test_frameArrives_holds, by decide +kernel⟩

/-- IDENTIFY and READ_WINDOW give the response of their own bytes. -/
theorem test_identify :
    then' (exec (.identify [0x07]) (linked part)) (fun t => decide ((t.link.holder.map Response.bytes)
      = some [0x01, 0x01, 0x05, 0x4B, 0x36, 0x43, 0x18, 0x01, checkByte [0x01, 0x01, 0x05, 0x4B, 0x36, 0x43, 0x18, 0x01]])) = true := by
  decide +kernel

/-- Window 3 stored with `c`. -/
def stored (c : WinConfig) (s : State) : State := linked (withWindow 3 ⟨.off, c, 0, .off⟩ s)
/-- A SINGLE window away from the others. -/
def elsewhere : WinConfig := { single with faceBase := 0x5000, dirStart := 40 }

theorem test_enableWindow_holds :
    FrameArrives (stored elsewhere part) ∧ dirWf (stored elsewhere part).directory
      ∧ (stored elsewhere part).windows[2].state ≠ .off ∧ (stored elsewhere part).windows[3].state = .off
      ∧ validate (stored elsewhere part) ((stored elsewhere part).cfg 3) = none
      ∧ validate (stored single part) ((stored single part).cfg 3) ≠ none
      ∧ (stored single part).windows[3].state = .off ∧ 16 ≤ (16 : Byte).toNat := by
  dsimp only [FrameArrives, FrameOpen, dirWf]; decide +kernel

theorem test_enableWindow_enables :
    then' (exec (.enableWindow (frameOf 0x12 [3, 1])) (stored elsewhere part)) (fun t => decide (t.windows[3].state = .live
      ∧ t.link.holder = some ⟨.accepted, 0x12, []⟩)) = true := by
  decide +kernel

/-- Sizes 0 and 17 and counts 0 and 4097 are out of range; a guard length of 0, or above the size, is too. -/
theorem test_validationOrder_boundaries :
    validate part { elsewhere with size := 0, guardLen := 0 } = some .badSize
      ∧ validate part { elsewhere with size := 17 } = some .badSize ∧ validate part { elsewhere with count := 0 } = some .badSize
      ∧ validate part { elsewhere with count := 4097 } = some .badSize
      ∧ validate part { elsewhere with guardLen := 0 } = some .badGuard
      ∧ validate part { elsewhere with guardLen := 5 } = some .badGuard
      ∧ validate part { elsewhere with guardLen := 4 } = none := by
  decide +kernel

/-- Conditions 3 to 8 and 10, each at the edge of what passes: bank counts 1 and 4, a range that ends with the address space
and one beyond it, a run that ends with the directory and one beyond it, runs, faces and banks that touch window 2's or
their own, and the limits of 0 that are allowed. -/
theorem test_validationOrder_edges :
    let away : WinConfig := { banked with faceBase := 0x5000, dirStart := 40, bank0 := 0x6000, bank1 := 0x600C }
    validate part { away with bankCount := 1 } = some .bankCount ∧ validate part { away with bankCount := 4 } = some .bankCount
      ∧ validate part { elsewhere with faceBase := 0x3FFFFFE0 } = none
      ∧ validate part { elsewhere with faceBase := 0x3FFFFFE1 } = some .rangeWrap
      ∧ validate part { away with bank1 := 0x3FFFFFF5 } = some .rangeWrap
      ∧ validate part { elsewhere with dirStart := 4088 } = none
      ∧ validate part { elsewhere with dirStart := 4089 } = some .directoryRange
      ∧ validate part { elsewhere with dirStart := 27 } = some .directoryOverlap
      ∧ validate part { elsewhere with dirStart := 28 } = none
      ∧ validate part { elsewhere with faceBase := 0x3FE1 } = some .faceOverlap
      ∧ validate part { elsewhere with faceBase := 0x3FE0 } = none
      ∧ validate part { away with bank1 := 0x600B } = some .bankOverlap
      ∧ validate part { away with bank0 := 0x500B } = some .bankOverlap
      ∧ validate part { away with bank0 := 0x401F } = some .bankOverlap ∧ validate part away = none := by
  decide +kernel

theorem test_validationOrder_limits :
    validate part { elsewhere with holdLimit := 0 } = some .limitRequired
      ∧ validate part { elsewhere with fillLimit := 0 } = some .limitRequired
      ∧ validate part { elsewhere with drainLimit := 0 } = some .limitRequired
      ∧ validate part { elsewhere with mode := .snap, holdLimit := 0 } = none
      ∧ validate part { elsewhere with mode := .snap, fillLimit := 0 } = some .limitRequired
      ∧ validate part { elsewhere with freshMode := .once } = some .badPeriod
      ∧ validate part { elsewhere with freshMode := .once, period := 1 } = none := by
  decide +kernel

/-- Window 2 LIVE with a hold; LIVE with nothing outstanding; DRAINING, forced and not; window 3 OFF. -/
def busy : State := linked (withHold 1 (aHold .opened 3 2) part)
def drainsWith (forced : Bool) : State :=
  linked (withWindow 2 { live single with state := .draining 5 forced } (withHold 1 (aHold .opened 3 2) part))

theorem test_disableWindow_holds :
    FrameArrives busy ∧ busy.windows[3].state = .off ∧ busy.windows[2].state = .live
      ∧ FrameArrives (drainsWith true) ∧ (drainsWith true).windows[2].state = .draining 5 true
      ∧ FrameArrives (drainsWith false) ∧ (drainsWith false).windows[2].state = .draining 5 false
      ∧ FrameArrives (linked part) ∧ (linked part).windows[2].state = .live ∧ holdsInForce (linked part) 2 = []
      ∧ fillsOf (linked part) 2 = [] ∧ (∀ e ∈ (linked part).park, e.window ≠ 2) ∧ 16 ≤ (16 : Byte).toNat := by
  dsimp only [FrameArrives, FrameOpen]; decide +kernel

theorem test_disableWindow_forces :
    then' (exec (.disableWindow (frameOf 0x13 [2, 1])) busy) (fun t => decide (t.windows[2].state = .off ∧ t.holds[1] = .cleared
      ∧ t.events.queue.map EventRecord.kind = [.drainForced, .drainDone])) = true
      ∧ then' (exec (.disableWindow (frameOf 0x13 [2, 0])) busy) (fun t => decide (t.windows[2].state = .draining 100 false)) = true := by
  decide +kernel

/-- Window 3, OFF, with its last record in the last entry of the directory, or beyond it. -/
def lastEntry (d : BitVec 16) : State := stored { elsewhere with dirStart := d } part

theorem test_readRecord_holds :
    FrameArrives (lastEntry 4088) ∧ (7 : BitVec 16).toNat < ((lastEntry 4088).cfg 3).count.toNat
      ∧ ((lastEntry 4088).cfg 3).dirStart.toNat + 7 ≤ 4095 ∧ ((lastEntry 4088).cfg 3).count.toNat ≤ (8 : BitVec 16).toNat
      ∧ FrameArrives (lastEntry 4089) ∧ 4095 < ((lastEntry 4089).cfg 3).dirStart.toNat + 7 ∧ 16 ≤ (16 : Byte).toNat := by
  dsimp only [FrameArrives, FrameOpen]; decide +kernel

theorem test_writeRecord_holds :
    FrameArrives (lastEntry 4088) ∧ dirWf (lastEntry 4088).directory ∧ (lastEntry 4088).windows[2].state ≠ .off
      ∧ (lastEntry 4088).windows[3].state = .off
      ∧ (∀ v : WindowNo, (lastEntry 4088).windows[v].state ≠ .off → ((lastEntry 4088).cfg v).ownsEntry 4095 = false)
      ∧ ((lastEntry 4088).cfg 3).allowsBank 0 = true ∧ ((lastEntry 4088).cfg 3).allowsBank 1 = false
      ∧ (lastEntry 4089).windows[3].state = .off
      ∧ FrameArrives (lastEntry 0) ∧ (lastEntry 0).windows[3].state = .off ∧ (lastEntry 0).windows[2].state ≠ .off
      ∧ ((lastEntry 0).cfg 2).ownsEntry 7 = true ∧ 3 ≤ (3 : Byte).toNat := by
  dsimp only [FrameArrives, FrameOpen, dirWf]; decide +kernel

theorem test_writeRecord_writes :
    then' (exec (.writeRecord (frameOf 0x19 [3, 0, 7, 0, 0, 9, 1, 0, 0, 0, 5])) (lastEntry 4088)) (fun t =>
      decide (t.directory = [(4095, ⟨0, 9, true, false, false, 5⟩)])) = true := by
  decide +kernel

theorem test_breakHolds_holds :
    FrameArrives busy ∧ 16 ≤ (16 : Byte).toNat ∧ 16 < (17 : Byte).toNat ∧ (16 : Byte).toNat ≤ 16
      ∧ busy.windows[3].state = .off ∧ Live busy 2 ∧ busy.holds[1].window = 2 ∧ busy.holds[1].state = .opened := by
  dsimp only [FrameArrives, FrameOpen, Live]; decide +kernel

/-- Master 6's fill of the record waits for that hold. -/
theorem test_breakHolds_holds_fill :
    let s := linked (withFill 4 (aFill .waiting 6 2) (withHold 1 (aHold .opened 3 2) part))
    FrameArrives s ∧ (s.cfg 2).mode = .single ∧ openFill s 2 0 = some 4 ∧ s.fills[4].state = .waiting ∧ OpenOn s 2 0 1
      ∧ then' (exec (.breakHolds (frameOf 0x21 [2, 3])) s) (fun t => decide (t.fills[4].state = .active)) = true := by
  dsimp only [FrameArrives, FrameOpen, OpenOn]; decide +kernel

theorem test_breakHolds_breaks :
    then' (exec (.breakHolds (frameOf 0x21 [2, 3])) busy) (fun t => decide (t.holds[1].reason = some .management
      ∧ t.link.holder = some ⟨.accepted, 0x21, [1]⟩)) = true := by
  decide +kernel

theorem test_readEvents_holds :
    FrameArrives (linked part) ∧ 1 ≤ (1 : Byte).toNat ∧ (4 : Byte).toNat ≤ 4 ∧ (0 : Byte).toNat = 0 ∧ 4 < (5 : Byte).toNat :=
  ⟨test_frameArrives_holds, by decide⟩

theorem test_countersReadAndCleared_holds : FrameArrives (linked part) ∧ 16 < (17 : Byte).toNat ∧ 16 ≤ (16 : Byte).toNat :=
  ⟨test_frameArrives_holds, by decide⟩

theorem test_setTimebase_holds :
    FrameArrives (linked part) ∧ (1 : Byte).toNat ≤ 1 ∧ (15 : Byte).toNat ≤ 15 ∧ 1 < (2 : Byte).toNat ∧ 15 < (16 : Byte).toNat :=
  ⟨test_frameArrives_holds, by decide⟩

theorem test_setEventControl_holds :
    FrameArrives (linked part) ∧ (3 : Byte).toNat < 4 ∧ 1 ≤ (1 : Byte).toNat ∧ (64 : Byte).toNat ≤ 64 ∧ 4 ≤ (4 : Byte).toNat
      ∧ 64 < (65 : Byte).toNat :=
  ⟨test_frameArrives_holds, by decide⟩

/-- A fill of a SINGLE window is open, and a word left by another soft reset waits. -/
def beforeReset : State := linked (withPark [leftover] (withFill 4 (aFill .active 6 2) part))

theorem test_softReset_holds : FrameArrives beforeReset ∧ dirWf beforeReset.directory := by
  dsimp only [FrameArrives, FrameOpen, dirWf]; decide +kernel

theorem test_softReset_resets :
    then' (exec (.softReset [0x81]) beforeReset) (fun t => decide (t.windows[2].state = .off ∧ t.fills[4] = .cleared 1
      ∧ t.park = [leftover] ∧ t.directory = [(0, ⟨0, 0, false, false, true, 0⟩)])) = true := by
  decide +kernel

/-- PARKED words get their addresses: in the face, in the lowest bank that is not active, in the target bank; a copy in
flight is orphaned. -/
theorem test_softReset_words :
    let s := linked (inFlightOf [⟨⟨0x8018, .read 4⟩, .copy 2 1 7 0 3 false⟩]
      (withPark [⟨some ⟨4, 1⟩, 6, 2, 0, 0, 1, full 7, .parked⟩, ⟨some ⟨5, 1⟩, 6, 5, 0, 8, 1, full 7, .parked⟩,
          ⟨some ⟨6, 1⟩, 6, 5, 1, 9, 1, full 7, .parked⟩]
        (withFill 4 { aFill .waiting 6 2 with parked := 1 } (withFill 5 { aFill .waiting 6 5 with parked := 1 }
          (withFill 6 { aFill .active 6 5 with record := 1, target := some 0 } part)))))
    then' (exec (.softReset [0x81]) s) (fun t => decide (t.park.map ParkEntry.condition
        = [.released 0x4001, .released 0x800D, .released 0x8004]
      ∧ t.inFlight.map InFlight.origin = [.copy 2 1 7 0 3 true])) = true := by
  decide +kernel

/-! ### Events -/

def denied : Report := ⟨.holdDenied, some 2, some 0, some 3, some .slot, 1⟩
/-- The queue holds n records of DRAIN_DONE, then one of a hold denied for an entry; k were lost. -/
def queued (n : Nat) (k : BitVec 16) : State :=
  { part with events :=
    ⟨List.replicate n anEvent ++ [⟨.holdDenied, some 2, some 0, some 3, some .entry, 0, 1⟩], k, some 8, .initial, 0⟩ }

theorem test_reports_holds :
    part.events.control.stores .fillPublished = false ∧ part.events.control.stores denied.kind = true
      ∧ (queued 0 0).events.lost = 0 ∧ denied.kind.merges = true
      ∧ (queued 63 0).events.queue.length = 64 ∧ (queued 61 3).events.queue.length + 2 = 64 ∧ (queued 61 3).events.lost ≠ 0
      ∧ (queued 62 3).events.queue.length + 2 = 65 ∧ (queued 62 3).events.lost ≠ 0 := by
  decide +kernel

theorem test_reports_merge :
    (report denied (queued 0 0)).events.queue = [⟨.holdDenied, some 2, some 0, some 3, some .both, 0, 2⟩]
      ∧ (report denied (queued 61 3)).events.queue.drop 62
          = [⟨.lost, none, none, none, none, 8, 3⟩, ⟨.holdDenied, some 2, some 0, some 3, some .slot, 0, 1⟩]
      ∧ (report denied (queued 62 3)).events.lost = 4 := by
  decide +kernel

/-! ### Resets and the queue -/

theorem test_pinReset_holds :
    ({ part with resetLow := true } : State).resetLow = true ∧ burstOk 16 = true
      ∧ ({ part with resetLow := true } : State).link.csLow = false := by
  decide +kernel

/-! ### Invariants -/

/-- Master 3 holds record 0 of window 2 while the segment of another lane is granted and issued. -/
def holdBeside : State :=
  { withHold 1 (aHold .opened 3 2) (atHead 5 (rd 0x10 1) .candidate part) with pending := [.laneSegmentGrant] }

theorem holdBeside_coherent : Coherent holdBeside := by
  constructor <;> first | decide +kernel | (dsimp only [HoldsDistinct, FillsDistinct, InService, sameRecord]; decide +kernel)

def granted : State := (after (step holdBeside)).getD holdBeside

/-- A step that issues, from a state with every premise, to one that it answers. -/
theorem test_noWriteUnderOpenSingleHold_holds :
    Coherent holdBeside ∧ ParkAccounted holdBeside ∧ LeftoversFirst holdBeside ∧ step holdBeside = .next granted
      ∧ granted.inFlight = holdBeside.inFlight ++ [⟨⟨0x10, .read 1⟩, .laneRead ⟨5, 0, 0, 1⟩ none []⟩]
      ∧ holdBeside.holds[1].state = .opened ∧ granted.holds[1].state = .opened ∧ (holdBeside.cfg 2).mode = .single := by
  refine ⟨holdBeside_coherent, ⟨?_, ?_, ?_⟩, ?_, eq_next_of_after ?_, ?_⟩
  · exact fun e he => absurd he List.not_mem_nil
  · exact fun e he => absurd he List.not_mem_nil
  · decide +kernel
  · exact fun ⟨e, he, _⟩ => absurd he List.not_mem_nil
  · decide +kernel
  · decide +kernel

theorem test_tablesKept_holds :
    WithinCapacity holdBeside ∧ DirectoryOk holdBeside ∧ TablesTidy holdBeside ∧ ControlOk holdBeside
      ∧ step holdBeside = .next granted := by
  refine ⟨?_, ?_, ?_, ?_, eq_next_of_after ?_⟩
  · dsimp only [WithinCapacity]; decide +kernel
  · dsimp only [DirectoryOk, FlagsApart, dirWf]; decide +kernel
  · dsimp only [TablesTidy]; decide +kernel
  · dsimp only [ControlOk]; decide +kernel
  · decide +kernel

theorem test_coherenceKept_holds : Coherent holdBeside ∧ step holdBeside = .next granted :=
  ⟨test_noWriteUnderOpenSingleHold_holds.1, test_noWriteUnderOpenSingleHold_holds.2.2.2.1⟩

/-- Two released words of an ACTIVE fill, the first of which is granted. -/
def released2 : State := { releases 2 with pending := [.parkReleaseGrant] }

theorem released2_coherent : Coherent released2 := by
  constructor <;> first | decide +kernel | (dsimp only [HoldsDistinct, FillsDistinct, InService, sameRecord]; decide +kernel)

theorem test_parkBooksKept_holds :
    ParkAccounted released2 ∧ Coherent released2 ∧ LeftoversFirst released2 ∧ ∃ t, step released2 = .next t := by
  refine ⟨⟨?_, ?_, ?_⟩, released2_coherent, ?_, ⟨_, rfl⟩⟩
  · have h : ∀ e ∈ released2.park, e = released := by decide +kernel
    intro e he ref href
    rw [h e he] at href ⊢
    cases href
    decide +kernel
  · decide +kernel
  · decide +kernel
  · dsimp only [LeftoversFirst]; decide +kernel

/-- The queue is first in, first out, and an empty one leaves the block idle. -/
theorem test_stepRunsFrontCommand :
    then' (step { part with pending := [.tick, .frameStart] }) (fun t => decide (t.timeBase.value = 1 ∧ t.pending = [.frameStart])) = true
      ∧ then' (step part) (fun t => decide (t = part)) = true := by
  decide +kernel

end Sys2Proof.Tests
end

section
/-! SUPPORT. ENABLE_WINDOW and READ_RECORD (R32 to R37, R42): a command's frame at a settled part, the window a command
names, the arguments it carries, what each of the two commands answers, and the directory an enable leaves. -/

namespace Sys2Proof.Machine

open Sys2Proof.Statements

/-! ### A frame that arrives at a settled part -/

section
variable {s : State} {code : Byte} {args : List Byte} {n : Nat} {run : List Byte → State → State × Verdict}

/-- The command of a whole frame runs after the end of the frame, and its verdict is stored (R161, R163). -/
theorem commandFrame_of_arrives (h : FrameArrives s) (hlen : args.length = n) :
    commandFrame code n run (frameOf code args) s =
      .next (store ((run args (afterFrame (n + 2) s)).2.response code) (run args (afterFrame (n + 2) s)).1) := by
  obtain ⟨hsettled, hlow, hreceiving⟩ := h
  subst hlen
  exact commandFrame_runs hsettled hlow hreceiving code run args

/-- A refused command changes nothing but the link. -/
theorem commandFrame_rejected {why : Reason} (h : FrameArrives s) (hlen : args.length = n)
    (hrun : run args (afterFrame (n + 2) s) = rejected why (afterFrame (n + 2) s)) :
    commandFrame code n run (frameOf code args) s =
      .next { s with link := linkAfter (n + 1) (rejectedResponse code why) } := by
  rw [commandFrame_of_arrives h hlen, hrun]
  rfl

/-- A command that returns data changes nothing but the link. -/
theorem commandFrame_answered {data : List Byte} (h : FrameArrives s) (hlen : args.length = n)
    (hrun : run args (afterFrame (n + 2) s) = answered data (afterFrame (n + 2) s)) :
    commandFrame code n run (frameOf code args) s =
      .next { s with link := linkAfter (n + 1) (acceptedResponse code data) } := by
  rw [commandFrame_of_arrives h hlen, hrun]
  rfl

/-- A command that is carried out leaves its own state, with ACCEPTED stored. -/
theorem commandFrame_accepted {t : State} (h : FrameArrives s) (hlen : args.length = n)
    (hrun : run args (afterFrame (n + 2) s) = accepted t) :
    commandFrame code n run (frameOf code args) s = .next (store (acceptedResponse code []) t) := by
  rw [commandFrame_of_arrives h hlen, hrun]
  rfl

end

/-! ### The arguments of a command -/

/-- The byte of a window number names that window. -/
@[simp] theorem windowOf_ofNat (w : WindowNo) : windowOf (.ofNat 8 w.val) = some w := by
  have hval : (BitVec.ofNat 8 w.val).toNat = w.val := by
    rw [BitVec.toNat_ofNat]; exact Nat.mod_eq_of_lt (by omega)
  simp [windowOf, hval]

/-- A byte above 15 names no window. -/
theorem windowOf_eq_none {b : Byte} (h : 16 ≤ b.toNat) : windowOf b = none := dif_neg (by omega)

/-- A command on the window whose number is its first byte. -/
@[simp] theorem onWindow_ofNat (w : WindowNo) (args : List Byte) (run : WindowNo → State → State × Verdict) (s : State) :
    onWindow (.ofNat 8 w.val :: args) run s = run w s := by
  simp [onWindow, byteAt]

/-- A window above 15 is REJECTED with BAD_INDEX (R167). -/
theorem onWindow_of_ge {b : Byte} (h : 16 ≤ b.toNat) (args : List Byte) (run : WindowNo → State → State × Verdict)
    (s : State) : onWindow (b :: args) run s = rejected .badIndex s := by
  simp [onWindow, byteAt, windowOf_eq_none h]

/-- The two bytes of a number, most significant first, are read back as that number. -/
@[simp] theorem half_bytes2 (b : Byte) (r : BitVec 16) : half (b :: bytes2 r) 1 = r := by
  simp only [half, byteAt, bytes2, List.getD_cons_succ, List.getD_cons_zero]
  exact BitVec.extractLsb'_append_extractLsb'_eq_extractLsb' (by omega) |>.trans (by simp)

/-! ### The window's state -/

/-- Every window but an OFF one is decoded (R28). -/
theorem decoded_eq_false_iff (x : Window) : x.decoded = false ↔ x.state = .off := by
  cases hstate : x.state <;> simp [Window.decoded, hstate]

/-! ### What ENABLE_WINDOW answers (R32) -/

/-- A window in service is refused before anything else is looked at. -/
theorem runEnableWindow_of_inService {s : State} {w : WindowNo} (h : s.windows[w].state ≠ .off) (b : Byte) :
    runEnableWindow [.ofNat 8 w.val, b] s = rejected .windowNotOff s := by
  rw [runEnableWindow, onWindow_ofNat, if_pos (by simpa [← decoded_eq_false_iff] using h)]

/-- An OFF window is refused with the condition that validation finds. -/
theorem runEnableWindow_of_refused {s : State} {w : WindowNo} {why : Reason} (hoff : s.windows[w].state = .off)
    (hwhy : validate s (s.cfg w) = some why) (b : Byte) : runEnableWindow [.ofNat 8 w.val, b] s = rejected why s := by
  simp only [runEnableWindow, onWindow_ofNat, (decoded_eq_false_iff _).2 hoff, hwhy, Bool.false_eq_true, if_false]

/-- An OFF window that validation passes is put in service. -/
theorem runEnableWindow_of_valid {s : State} {w : WindowNo} (hoff : s.windows[w].state = .off)
    (hnone : validate s (s.cfg w) = none) (b : Byte) :
    runEnableWindow [.ofNat 8 w.val, b] s = accepted (putInService w (optionSet b) s) := by
  simp only [runEnableWindow, onWindow_ofNat, (decoded_eq_false_iff _).2 hoff, hnone, Bool.false_eq_true, if_false]
  rfl

/-! ### The directory an enable leaves (R36) -/

/-- Adjusting the cleared entry leaves it cleared, since its active bank is 0. -/
theorem adjustBank_cleared (c : WinConfig) (i : Nat) : adjustBank c i .cleared = .cleared := by
  unfold adjustBank; split <;> rfl

/-- An entry after an accepted enable: in the run cleared by the initialize option, or kept but for a bank the window
cannot have; outside the run as it was. -/
theorem dirGet_enabledDirectory {d : List (Nat × DirEntry)} (h : dirWf d) (c : WinConfig) (init : Bool) (i : Nat) :
    dirGet (enabledDirectory c init d) i =
      if c.ownsEntry i then
        (if init then .cleared
         else if c.allowsBank (dirGet d i).activeBank then dirGet d i
         else { dirGet d i with activeBank := 0 })
      else dirGet d i := by
  cases init with
  | true =>
    have hread : dirGet (enabledDirectory c true d) i = if !c.ownsEntry i then dirGet d i else .cleared :=
      dirGet_filter (p := fun k => !c.ownsEntry k) h i
    rw [hread]
    cases c.ownsEntry i <;> rfl
  | false =>
    have hread : dirGet (enabledDirectory c false d) i = adjustBank c i (dirGet d i) :=
      dirGet_dirMap h i (adjustBank_cleared c)
    rw [hread, adjustBank]
    cases c.ownsEntry i <;> cases c.allowsBank (dirGet d i).activeBank <;> rfl

/-! ### What READ_RECORD answers (R42) -/

/-- A record exists when it is below the stored N and its entry is one of the 4096. -/
theorem hasRecord_iff (c : WinConfig) (r : Nat) :
    c.hasRecord r = true ↔ r < c.count.toNat ∧ c.dirStart.toNat + r ≤ 4095 := by
  rw [WinConfig.hasRecord, Bool.and_eq_true, decide_eq_true_eq, decide_eq_true_eq]
  exact and_congr_right fun _ => Nat.lt_succ_iff

/-- A record that exists is answered with its entry, whatever the window's state. -/
theorem runReadRecord_of_hasRecord {s : State} {w : WindowNo} {r : BitVec 16} (h : (s.cfg w).hasRecord r.toNat = true) :
    runReadRecord (.ofNat 8 w.val :: bytes2 r) s = answered (dirEntryBytes (s.dirEntry w r.toNat)) s := by
  rw [runReadRecord, onWindow_ofNat, half_bytes2]
  exact if_pos h

/-- A record beyond the stored N, or beyond the directory, is REJECTED with BAD_INDEX. -/
theorem runReadRecord_of_not_hasRecord {s : State} {w : WindowNo} {r : BitVec 16}
    (h : ¬ (s.cfg w).hasRecord r.toNat = true) :
    runReadRecord (.ofNat 8 w.val :: bytes2 r) s = rejected .badIndex s := by
  rw [runReadRecord, onWindow_ofNat, half_bytes2]
  exact if_neg h

/-! ### The statements -/

/-- Settles O44, by the cases of R32: no such window, in service, refused by validation, put in service. -/
theorem enableWindowOutcome : Obligations.EnableWindowOutcome := by
  intro s w v b harrives hdir
  refine ⟨fun hv => ?noWindow, fun hin => ?inService, fun why hoff hwhy => ?refused, fun hoff hnone => ?enabled⟩
  case noWindow => exact commandFrame_rejected harrives rfl (onWindow_of_ge hv _ _ _)
  case inService => exact commandFrame_rejected harrives rfl (runEnableWindow_of_inService (s := afterFrame 4 s) hin b)
  case refused => exact commandFrame_rejected harrives rfl (runEnableWindow_of_refused (s := afterFrame 4 s) hoff hwhy b)
  case enabled =>
    have hrun := runEnableWindow_of_valid (s := afterFrame 4 s) hoff hnone b
    have hreqs := sameRequests_putInService w (optionSet b) (afterFrame 4 s)
    have hread := dirGet_enabledDirectory hdir (s.cfg w) (optionSet b)
    simp only [optionSet, decide_eq_true_eq] at hread
    exact ⟨_, commandFrame_accepted harrives rfl hrun, rfl, hread, hreqs, rfl⟩

/-- Settles O47, by whether the record has an entry in the directory. -/
theorem readRecordAnswers : Obligations.ReadRecordAnswers := by
  intro s w r b harrives
  refine ⟨fun hcount hentry => ?answered, fun hnot => ?noRecord, fun hb => ?noWindow⟩
  case answered =>
    have hhas := (hasRecord_iff (s.cfg w) r.toNat).2 ⟨hcount, hentry⟩
    exact commandFrame_answered harrives rfl (runReadRecord_of_hasRecord hhas)
  case noRecord =>
    have hno : ¬ (s.cfg w).hasRecord r.toNat = true := by
      rw [hasRecord_iff]
      omega
    exact commandFrame_rejected harrives rfl (runReadRecord_of_not_hasRecord hno)
  case noWindow => exact commandFrame_rejected harrives rfl (onWindow_of_ge hb _ _ _)

end Sys2Proof.Machine
end

section
/-! SUPPORT. READ_HOLD (R68): the entry a byte names, and what the command answers. -/

namespace Sys2Proof.Machine

open Sys2Proof.Statements

/-- A byte below 32 names the hold entry of that index (R68). -/
theorem holdOf_of_lt {b : Byte} (h : b.toNat < 32) : holdOf b = some ⟨b.toNat, h⟩ := dif_pos h

/-- A byte above 31 names no hold entry. -/
theorem holdOf_eq_none {b : Byte} (h : 32 ≤ b.toNat) : holdOf b = none := dif_neg (Nat.not_lt.2 h)

/-- A hold entry is answered with its fields, whatever its state. -/
theorem runReadHold_of_lt {b : Byte} (h : b.toNat < 32) (s : State) :
    runReadHold [b] s = answered (holdBytes s.holds[b.toNat]) s := by
  have hnamed : holdOf (byteAt [b] 0) = some ⟨b.toNat, h⟩ := holdOf_of_lt h
  rw [runReadHold, hnamed]
  rfl

/-- An index above 31 is REJECTED with BAD_INDEX. -/
theorem runReadHold_of_ge {b : Byte} (h : 32 ≤ b.toNat) (s : State) : runReadHold [b] s = rejected .badIndex s := by
  have hnone : holdOf (byteAt [b] 0) = none := holdOf_eq_none h
  rw [runReadHold, hnone]

/-- The cleared entry reads as 0, but for the two absent fields that are sent as FFh (section 10.7). -/
theorem holdBytes_cleared : holdBytes .cleared = [0, 0, 0, 0, 0, 0, 0, 0, 0xFF, 0xFF, 0, 0, 0, 0, 0] := by
  decide

/-- Settles O42, by whether the byte names one of the 32 entries. -/
theorem readHoldAnswers : Obligations.ReadHoldAnswers := by
  intro s b harrives
  refine ⟨fun hlt => ?answered, fun hge => ?noEntry, holdBytes_cleared⟩
  case answered => exact commandFrame_answered harrives rfl (runReadHold_of_lt hlt (afterFrame 3 s))
  case noEntry => exact commandFrame_rejected harrives rfl (runReadHold_of_ge hge (afterFrame 3 s))

end Sys2Proof.Machine
end

section
/-! SUPPORT. A FAULT on a write issued for a fill (R86, R105): what a report reads of a state, what the fault does to the
directory and to the fills, and what the response to a released word does. -/

namespace Sys2Proof.Machine

open Sys2Proof.Statements

/-! ### What a report reads (R149 to R155) -/

/-- A report reads the Event Unit, ALERT_N and the time base only: taken where these stand as in s, it leaves the Event
Unit and ALERT_N as it leaves those of s. -/
theorem reported_of_agree {s u : State} (r : Report) (hevents : u.events = s.events) (hlow : u.alertLow = s.alertLow)
    (htime : u.timeBase = s.timeBase) : Reported r s (report r u) := by
  unfold Reported report
  rw [hevents]
  split
  · simp [htime]
  · exact ⟨hevents, hlow⟩

/-! ### What the fault does at the Fill Engine (R40, R86) -/

/-- One directory entry is marked DAMAGED, and keeps its other fields; every other entry stands. -/
theorem dirGet_markDamaged {s : State} (h : dirWf s.directory) (i n : Nat) :
    dirGet (markDamaged i s).directory n =
      if i = n then { dirGet s.directory i with damaged := true } else dirGet s.directory n :=
  dirGet_dirPut h

/-- The directory after the fault is that of the marking, whatever fill is named. -/
theorem dirGet_fillWriteFaulted {s : State} (h : dirWf s.directory) (i : Nat) (ref : Option FillRef) (n : Nat) :
    dirGet (fillWriteFaulted i ref s).directory n =
      if i = n then { dirGet s.directory i with damaged := true } else dirGet s.directory n := by
  have hmarked : (fillWriteFaulted i ref s).directory = (markDamaged i s).directory := by
    cases ref with
    | none => rfl
    | some f =>
      simp only [fillWriteFaulted]
      split <;> rfl
  rw [hmarked, dirGet_markDamaged h]

/-- The fill that a reference names is write-faulted when it is still open with the generation named. -/
theorem fillWriteFaulted_fills (i : Nat) (f : FillRef) (s : State) :
    (fillWriteFaulted i (some f) s).fills =
      if refersTo f s then s.fills.set f.index { s.fills[f.index] with writeFaulted := true } else s.fills := by
  have hmarked : refersTo f (markDamaged i s) = refersTo f s := rfl
  simp only [fillWriteFaulted, hmarked]
  split <;> rfl

/-- A fault that names no fill changes no fill. -/
theorem fillWriteFaulted_fills_none (i : Nat) (s : State) : (fillWriteFaulted i none s).fills = s.fills := rfl

/-! ### The fault taken and reported -/

/-- Neither the in-flight list nor the fault bears on the report: the Event Unit and ALERT_N take it as those of s. -/
theorem reported_fillWriteFaulted (r : Report) (i : Nat) (ref : Option FillRef) (rest : List InFlight) (s : State) :
    Reported r s (report r (fillWriteFaulted i ref { s with inFlight := rest })) := by
  apply reported_of_agree <;> rw [fillWriteFaulted_writes]

/-- The fault and its report change the directory, the fills, the Event Unit and ALERT_N, and nothing else. -/
theorem report_fillWriteFaulted_writes (r : Report) (i : Nat) (ref : Option FillRef) (s : State) :
    report r (fillWriteFaulted i ref s) =
      { s with
        directory := (fillWriteFaulted i ref s).directory, fills := (fillWriteFaulted i ref s).fills,
        events := (report r (fillWriteFaulted i ref s)).events,
        alertLow := (report r (fillWriteFaulted i ref s)).alertLow } := by
  rw [report_writes, fillWriteFaulted_writes]

/-! ### The response to a released word (R105) -/

section
variable {s : State} {x : InFlight} {rest : List InFlight} {fill : Option FillRef} {w : WindowNo} {r i j : Nat} {m : Tag}

/-- OKAY takes the release off the list. -/
theorem respondRelease_okay (hlist : s.inFlight = x :: rest) (horigin : x.origin = .release fill w r i m j) :
    respondRelease .okay s = { s with inFlight := rest } := by
  simp only [respondRelease, hlist, horigin]

/-- FAULT takes the release off the list, is given to the Fill Engine and is reported. -/
theorem respondRelease_fault (hlist : s.inFlight = x :: rest) (horigin : x.origin = .release fill w r i m j) :
    respondRelease .fault s =
      report (.of .parkedWriteFault w r m) (fillWriteFaulted i fill { s with inFlight := rest }) := by
  simp only [respondRelease, hlist, horigin]

end

/-- At a settled part the response is taken at once. -/
theorem exec_parkReleaseResponse {s : State} (h : s.Settled) (status : BeatStatus) :
    exec (.parkReleaseResponse status) s = .next (respondRelease status s) := by
  change execParkReleaseResponse status s = _
  rw [execParkReleaseResponse, settle_of_settled h]

/-- Settles O25, by the memory's answer: OKAY, or FAULT, which the Fill Engine takes before it is reported. -/
theorem releaseResponse : Obligations.ReleaseResponse := by
  intro s x rest fill w r i m j hsettled hdir hlist horigin
  have htaken := report_fillWriteFaulted_writes (.of .parkedWriteFault w r m) i fill { s with inFlight := rest }
  have hentries := dirGet_fillWriteFaulted (s := { s with inFlight := rest }) hdir i fill
  refine ⟨?okay, _, ?fault, ?lanes, ?entry, ?others, ?fills, reported_fillWriteFaulted _ i fill rest s, ?frame⟩
  case okay => rw [exec_parkReleaseResponse hsettled, respondRelease_okay hlist horigin]
  case fault => rw [exec_parkReleaseResponse hsettled, respondRelease_fault hlist horigin]
  case lanes => rw [htaken]
  case entry => rw [htaken, hentries, if_pos rfl]
  case others =>
    intro n hn
    rw [htaken, hentries, if_neg hn.symm]
  case fills =>
    rw [htaken]
    cases fill with
    | none => exact fillWriteFaulted_fills_none i _
    | some f => exact fillWriteFaulted_fills i f _
  case frame => rw [htaken]

end Sys2Proof.Machine
end

section
/-! SUPPORT. The Event Unit's taking of a report (R150 to R152): which record a report merges into, and the five things
that can become of it. -/

namespace Sys2Proof.Machine

/-! ### The record a report merges into (R151) -/

/-- A count of 16 bits goes on by one and stops at FFFFh. -/
theorem saturate16_eq (x : BitVec 16) : saturate16 x = if x = 0xFFFF then x else x + 1 := rfl

/-- A report matches a record of its kind, window, record index and master. -/
theorem matches_iff (r : Report) (e : EventRecord) :
    r.matches e = true ↔ e.kind = r.kind ∧ e.window = r.window ∧ e.record = r.record ∧ e.master = r.master := by
  simp only [Report.matches, Bool.and_eq_true, decide_eq_true_eq, and_assoc]

section
variable {u : EventUnit} {r : Report}

/-- The report merges into e exactly when its kind merges, nothing is lost, and e is the newest unread record and has
the report's kind, window, record and master. -/
theorem mergeTarget_eq_some_iff {e : EventRecord} :
    u.mergeTarget r = some e ↔ r.kind.merges = true ∧ u.lost = 0 ∧ u.queue.getLast? = some e ∧ e.kind = r.kind
      ∧ e.window = r.window ∧ e.record = r.record ∧ e.master = r.master := by
  unfold EventUnit.mergeTarget
  split
  next hmay =>
    obtain ⟨hmerges, hlost⟩ : r.kind.merges = true ∧ u.lost = 0 := by simpa using hmay
    simp only [Option.filter_eq_some_iff, matches_iff, hmerges, hlost, true_and]
  next hnot =>
    have hmay : ¬ (r.kind.merges = true ∧ u.lost = 0) := by simpa using hnot
    simp only [reduceCtorEq, false_iff]
    exact fun ⟨hmerges, hlost, _⟩ => hmay ⟨hmerges, hlost⟩

/-- Once something is lost no report merges. -/
theorem mergeTarget_of_lost (hlost : u.lost ≠ 0) : u.mergeTarget r = none :=
  Option.eq_none_iff_forall_ne_some.2 fun _ he =>
    have ⟨_, hzero, _⟩ := mergeTarget_eq_some_iff.1 he
    hlost hzero

/-! ### What becomes of a report of a stored kind (R151, R152) -/

/-- Records join at the tail; the age countdown is loaded when the queue was empty (R155). -/
theorem eventUnit_append (u : EventUnit) (rs : List EventRecord) :
    u.append rs = { u with queue := u.queue ++ rs, age := if u.queue = [] then u.control.latency else u.age } := by
  simp only [EventUnit.append, List.isEmpty_iff]

section
variable (now : BitVec 32)

/-- Merged: the newest record alone changes. -/
theorem enqueue_merged {e : EventRecord} (h : u.mergeTarget r = some e) :
    u.enqueue now r = { u with queue := u.queue.dropLast ++ [mergeInto r e] } := by
  rw [EventUnit.enqueue, h]

/-- Appended, while nothing is lost and a place is free. -/
theorem enqueue_appended (h : u.mergeTarget r = none) (hlost : u.lost = 0) (hroom : u.queue.length < 64) :
    u.enqueue now r = u.append [r.toRecord now] := by
  have hfree : 1 ≤ Config.eventCapacity - u.queue.length := Nat.sub_pos_of_lt hroom
  simp only [EventUnit.enqueue, h, hlost, hfree, if_true]

/-- Dropped as the first loss, when no place is free. -/
theorem enqueue_firstLoss (h : u.mergeTarget r = none) (hlost : u.lost = 0) (hfull : 64 ≤ u.queue.length) :
    u.enqueue now r = { u with lost := 1, lostStamp := some now } := by
  have hfree : Config.eventCapacity - u.queue.length = 0 := Nat.sub_eq_zero_of_le hfull
  simp [EventUnit.enqueue, h, hlost, hfree]

/-- Appended behind LOST, once places for both are free. -/
theorem enqueue_behindLost (hlost : u.lost ≠ 0) (hroom : u.queue.length + 2 ≤ 64) :
    u.enqueue now r = { u.append [u.lostRecord, r.toRecord now] with lost := 0, lostStamp := none } := by
  have hfree : 2 ≤ Config.eventCapacity - u.queue.length := Nat.le_sub_of_add_le' hroom
  simp only [EventUnit.enqueue, mergeTarget_of_lost hlost, hlost, hfree, if_true, if_false]

/-- Counted as one more loss, while fewer than two places are free. -/
theorem enqueue_counted (hlost : u.lost ≠ 0) (hfull : 64 < u.queue.length + 2) :
    u.enqueue now r = { u with lost := saturate16 u.lost } := by
  have hfree : ¬ 2 ≤ Config.eventCapacity - u.queue.length := by
    simp only [Config.eventCapacity]
    omega
  simp only [EventUnit.enqueue, mergeTarget_of_lost hlost, hlost, hfree, if_false]

end
end

/-! ### The report at the part (R150) -/

/-- A report of a kind that is not stored changes nothing. -/
theorem report_of_not_stored {s : State} {r : Report} (h : s.events.control.stores r.kind = false) : report r s = s := by
  simp [report, h]

/-- A report of a stored kind changes the Event Unit, and ALERT_N follows it. -/
theorem report_of_stored {s : State} {r : Report} (h : s.events.control.stores r.kind = true) :
    report r s = { s with
      events := s.events.enqueue s.timeBase.value r
      alertLow := (s.events.enqueue s.timeBase.value r).alertCondition } :=
  if_pos h

/-- Settles O55, by whether the kind is stored, and by what R151 and R152 make of a report of a stored kind. -/
theorem reportsMergeAppendOrCount : Obligations.ReportsMergeAppendOrCount := by
  intro s r
  refine ⟨report_of_not_stored, fun hstored => ?_⟩
  intro u now merges new t
  have ht : t = u.enqueue now r := congrArg State.events (report_of_stored hstored)
  have hnone (hnot : ¬ merges) : u.mergeTarget r = none :=
    Option.eq_none_iff_forall_ne_some.2 fun e he =>
      have ⟨hkind, hlost, hfields⟩ := mergeTarget_eq_some_iff.1 he
      hnot ⟨hkind, hlost, e, hfields⟩
  refine ⟨?merged, ?appended, ?firstLoss, ?behindLost, ?counted, ?frame⟩
  case merged =>
    rintro ⟨hkind, hlost, e, hlast, hfields⟩
    have htarget : u.mergeTarget r = some e := mergeTarget_eq_some_iff.2 ⟨hkind, hlost, hlast, hfields⟩
    obtain ⟨pre, hqueue⟩ := List.getLast?_eq_some_iff.1 hlast
    refine ⟨pre, e, hqueue, ?_⟩
    rw [ht, enqueue_merged now htarget, hqueue, List.dropLast_concat]
    rfl
  case appended =>
    intro hnot hlost hroom
    rw [ht, enqueue_appended now (hnone hnot) hlost hroom, eventUnit_append]
    rfl
  case firstLoss =>
    intro hnot hlost hfull
    rw [ht, enqueue_firstLoss now (hnone hnot) hlost hfull]
  case behindLost =>
    intro hlost hroom
    rw [ht, enqueue_behindLost now hlost hroom, eventUnit_append]
    rfl
  case counted =>
    intro hlost hfull
    rw [ht, enqueue_counted now hlost hfull, saturate16_eq]
  case frame =>
    rw [ht]
    exact report_of_stored hstored

end Sys2Proof.Machine
end

section
/-! SUPPORT. READ_COUNTERS and CLEAR_COUNTERS (R157): what each of the two commands answers. -/

namespace Sys2Proof.Machine

open Sys2Proof.Statements

/-- The byte of a window number is not 10h (ALL). -/
theorem ofNat_ne_all (w : WindowNo) : (.ofNat 8 w.val : Byte) ≠ 0x10 := by
  intro hall
  have hnamed := windowOf_ofNat w
  rw [hall, windowOf_eq_none (by decide)] at hnamed
  cases hnamed

/-- The counters of the window named are answered. -/
theorem runReadCounters_ofNat (w : WindowNo) (s : State) :
    runReadCounters [.ofNat 8 w.val] s = answered (counterBytes s.counters[w]) s :=
  onWindow_ofNat w [] _ s

/-- The counters of the window named are cleared, and no other. -/
theorem runClearCounters_ofNat (w : WindowNo) (s : State) :
    runClearCounters [.ofNat 8 w.val] s = accepted { s with counters := s.counters.set w .zero } :=
  (if_neg (ofNat_ne_all w)).trans (onWindow_ofNat w [] _ s)

/-- 10h (ALL) clears the counters of every window. -/
theorem runClearCounters_all (s : State) :
    runClearCounters [0x10] s = accepted { s with counters := .replicate 16 .zero } := rfl

/-- A byte above 10h names no window, and nothing is cleared. -/
theorem runClearCounters_of_gt {b : Byte} (h : 16 < b.toNat) (s : State) :
    runClearCounters [b] s = rejected .badIndex s := by
  have hall : b ≠ 0x10 := by
    rintro rfl
    exact absurd h (by decide)
  exact (if_neg hall).trans (onWindow_of_ge h.le [] _ s)

/-- Settles O51, by the window, all windows or no window that the argument names. -/
theorem countersReadAndCleared : Obligations.CountersReadAndCleared := by
  intro s w b harrives
  refine ⟨?read, ?clearOne, ?clearAll, fun hb => ?clearNone, fun hb => ?readNone⟩
  case read => exact commandFrame_answered harrives rfl (runReadCounters_ofNat w (afterFrame 3 s))
  case clearOne => exact (commandFrame_accepted harrives rfl (runClearCounters_ofNat w (afterFrame 3 s))).trans rfl
  case clearAll => exact (commandFrame_accepted harrives rfl (runClearCounters_all (afterFrame 3 s))).trans rfl
  case clearNone => exact commandFrame_rejected harrives rfl (runClearCounters_of_gt hb (afterFrame 3 s))
  case readNone => exact commandFrame_rejected harrives rfl (onWindow_of_ge hb _ _ _)

end Sys2Proof.Machine
end

section
/-! SUPPORT. DISABLE_WINDOW (R171): the drain operations neither read nor write the management link, the completion of a
drain, and what the command answers in each state of its window. -/

namespace Sys2Proof.Machine

open Sys2Proof.Statements

/-! ### Operations that the link does not bear on -/

/-- The state with another management link. -/
def State.withLink (l : Link) (s : State) : State := { s with link := l }

/-- The operation neither reads nor writes the management link. -/
def LinkBlind (f : State → State) : Prop := ∀ (s : State) (l : Link), f (s.withLink l) = (f s).withLink l

theorem linkBlind_id : LinkBlind id := fun _ _ => rfl

theorem LinkBlind.comp {f g : State → State} (hf : LinkBlind f) (hg : LinkBlind g) : LinkBlind (f ∘ g) := fun s l =>
  calc
    f (g (s.withLink l)) = f ((g s).withLink l) := congrArg f (hg s l)
    _ = (f (g s)).withLink l := hf (g s) l

theorem LinkBlind.ite {f g : State → State} (c : Prop) [Decidable c] (hf : LinkBlind f) (hg : LinkBlind g) :
    LinkBlind fun s => if c then f s else g s := by
  split
  · exact hf
  · exact hg

/-! In the proofs below an operation is written as a chain of steps, chosen by what it reads of the state s. It reads the
same of s with another link. -/

theorem linkBlind_report (r : Report) : LinkBlind (report r) := fun s l => by
  have hstored : (s.withLink l).events = s.events := rfl
  simp only [report, hstored]
  split <;> rfl

/-! ### The Fill Engine's part of a drain -/

theorem linkBlind_tryActivate (w : WindowNo) (r : Nat) : LinkBlind (tryActivate w r) := fun s l => by
  have hopen : openFill (s.withLink l) w r = openFill s w r := rfl
  have hfills : (s.withLink l).fills = s.fills := rfl
  have hplace (m : Tag) : fillPlace (s.withLink l) w r m = fillPlace s w r m := rfl
  simp only [tryActivate, hopen, hfills, hplace]
  cases openFill s w r with
  | none => rfl
  | some f =>
    by_cases hwaiting : s.fills[f].state = .waiting
    · simp only [hwaiting, if_true]
      cases fillPlace s w r s.fills[f].owner with
      | none => rfl
      | some target => rfl
    · simp only [hwaiting, if_false]

theorem linkBlind_activateFills (fs : List FillNo) : LinkBlind (activateFills fs) := by
  induction fs with
  | nil => exact linkBlind_id
  | cons f fs ih => exact fun s l => (ih.comp (linkBlind_tryActivate s.fills[f].window s.fills[f].record)) s l

theorem linkBlind_setFill (f : FillNo) (x : Fill) : LinkBlind (State.setFill f x) := fun _ _ => rfl

theorem linkBlind_count (n : CounterName) (w : WindowNo) : LinkBlind (count n w) := fun _ _ => rfl

theorem linkBlind_markDamaged (i : Nat) : LinkBlind (markDamaged i) := fun _ _ => rfl

theorem linkBlind_freeFillEntry (f : FillNo) : LinkBlind (freeFillEntry f) := fun _ _ => rfl

theorem linkBlind_abandonFill (f : FillNo) : LinkBlind (abandonFill f) := fun s l => by
  have hfills : (s.withLink l).fills = s.fills := rfl
  have hcfg (w : WindowNo) : (s.withLink l).cfg w = s.cfg w := rfl
  simp only [abandonFill, hfills, hcfg]
  let x := s.fills[f]
  let c := s.cfg x.window
  exact ((LinkBlind.ite (x.parked = 0) (linkBlind_freeFillEntry f) linkBlind_id).comp <|
    (linkBlind_count .fillsAbandoned x.window).comp <|
    (linkBlind_report (.of .fillAbandoned x.window x.record x.owner)).comp <|
    (LinkBlind.ite (c.mode = .banked) linkBlind_id (linkBlind_markDamaged (c.dirIndex x.record))).comp <|
    linkBlind_setFill f { x with abandoned := true }) s l

theorem linkBlind_abandonIncomplete (fs : List FillNo) : LinkBlind (abandonIncomplete fs) := by
  induction fs with
  | nil => exact linkBlind_id
  | cons f fs ih =>
    intro s l
    have hfills : (s.withLink l).fills = s.fills := rfl
    have hcfg (w : WindowNo) : (s.withLink l).cfg w = s.cfg w := rfl
    simp only [abandonIncomplete, hfills, hcfg]
    split
    · rw [linkBlind_abandonFill f s l, ih]
    · exact ih s l

/-! ### The Hold Unit's part of a drain -/

theorem linkBlind_setHold (i : HoldNo) (h : Hold) : LinkBlind (State.setHold i h) := fun _ _ => rfl

theorem linkBlind_releaseSlot (k : Option SlotNo) : LinkBlind (releaseSlot k) := by
  cases k with
  | none => exact linkBlind_id
  | some k => exact fun _ _ => rfl

theorem linkBlind_breakReport (reason : BreakReason) (h : Hold) : LinkBlind (breakReport reason h) := by
  cases reason with
  | expired => exact linkBlind_report _
  | yielded => exact linkBlind_report _
  | drain => exact linkBlind_id
  | management => exact linkBlind_id

theorem linkBlind_breakEntry (reason : BreakReason) (i : HoldNo) : LinkBlind (breakEntry reason i) := fun s l => by
  have hholds : (s.withLink l).holds = s.holds := rfl
  have hcfg (w : WindowNo) : (s.withLink l).cfg w = s.cfg w := rfl
  simp only [breakEntry, hholds, hcfg]
  cases s.holds[i].state with
  | opened =>
    exact ((linkBlind_breakReport reason s.holds[i]).comp <| (linkBlind_count .holdsBroken s.holds[i].window).comp <|
      (linkBlind_setHold i _).comp <| linkBlind_releaseSlot s.holds[i].slot) s l
  | copying => rfl
  | broken => rfl
  | free => rfl

theorem linkBlind_breakForDrain (is : List HoldNo) : LinkBlind (breakForDrain is) := by
  induction is with
  | nil => exact linkBlind_id
  | cons i is ih => exact ih.comp (linkBlind_breakEntry .drain i)

/-! ### Completion and the forced drain (R173, R175) -/

theorem linkBlind_setWindow (w : WindowNo) (x : Window) : LinkBlind (State.setWindow w x) := fun _ _ => rfl

theorem linkBlind_drawn : LinkBlind State.drawn := fun _ _ => rfl

theorem linkBlind_reofferWhen (p : Stall → Bool) : LinkBlind (reofferWhen p) := fun _ _ => rfl

theorem linkBlind_recut (old : Vector Window 16) : LinkBlind (recut old) := fun _ _ => rfl

theorem linkBlind_beginDrain (w : WindowNo) : LinkBlind (beginDrain w) := fun _ _ => rfl

theorem linkBlind_completeDrain (w : WindowNo) : LinkBlind (completeDrain w) := fun s l =>
  have hleave : LinkBlind fun u => cancelSweep w { u with holds := tableMap (fun _ h => h.leaveService w) u.holds } :=
    fun _ _ => rfl
  ((linkBlind_recut s.windows).comp <| (linkBlind_report (drainDoneReport w)).comp <| hleave.comp <|
    linkBlind_setWindow w { s.windows[w] with state := .off }) s l

theorem linkBlind_drainTest (w : WindowNo) : LinkBlind (drainTest w) := fun s l => by
  have hcomplete : windowComplete (s.withLink l) w = windowComplete s w := rfl
  have hwindows : (s.withLink l).windows = s.windows := rfl
  simp only [drainTest, hcomplete, hwindows]
  split
  · exact linkBlind_completeDrain w s l
  · rfl

theorem linkBlind_forceDrain (w : WindowNo) : LinkBlind (forceDrain w) := fun s l =>
  let hs := holdsInForce s w
  let fs := fillsOf s w
  ((linkBlind_drainTest w).comp <| (linkBlind_report (drainForcedReport w (hs.length + fs.length))).comp <|
    (linkBlind_abandonIncomplete (freeOrder s.freeCount fs)).comp <| (linkBlind_activateFills fs).comp <|
    (linkBlind_reofferWhen (Stall.touchedByDrain w)).comp <| (linkBlind_breakForDrain hs).comp <|
    linkBlind_drawn.comp <| linkBlind_setWindow w s.windows[w].force) s l

/-! ### The frame of such a command -/

/-- A command whose effect the link does not bear on leaves that effect on the state in which its frame arrived, with
ACCEPTED stored. -/
theorem commandFrame_linkBlind {s : State} {code : Byte} {args : List Byte} {n : Nat}
    {run : List Byte → State → State × Verdict} {f : State → State} (hf : LinkBlind f) (h : FrameArrives s)
    (hlen : args.length = n) (hrun : run args (afterFrame (n + 2) s) = accepted (f (afterFrame (n + 2) s))) :
    commandFrame code n run (frameOf code args) s =
      .next { f s with link := linkAfter (n + 1) (acceptedResponse code []) } := by
  have hframe : f (afterFrame (n + 2) s) = { f s with link := ⟨false, .idle, s.link.holder, zeros (n + 2)⟩ } := hf s _
  rw [commandFrame_accepted h hlen hrun, hframe]
  rfl

/-! ### The completion of a drain (R173) -/

/-- A window is complete when it has no hold in force, no open fill and no parked word. -/
theorem windowComplete_iff (s : State) (w : WindowNo) :
    windowComplete s w = true ↔ holdsInForce s w = [] ∧ fillsOf s w = [] ∧ ∀ e ∈ s.park, e.window ≠ w := by
  simp [windowComplete, and_assoc]

/-- A DRAINING window that is complete passes the test. -/
theorem drainTest_of_complete {s : State} {w : WindowNo} (hdraining : s.windows[w].isDraining = true)
    (hcomplete : windowComplete s w = true) : drainTest w s = completeDrain w s := by
  rw [drainTest, hdraining, hcomplete]
  rfl

/-- The window whose drain completes is OFF; its other fields and the other windows stay. -/
theorem completeDrain_windows (w : WindowNo) (s : State) :
    (completeDrain w s).windows = s.windows.set w { s.windows[w] with state := .off } := by
  simp only [completeDrain]
  rw [recut_writes, report_writes]
  rfl

/-- A drain that completes where the Event Unit, ALERT_N and the time base stand as in s reports DRAIN_DONE to that Event
Unit, and nothing else. -/
theorem reported_completeDrain {s u : State} (w : WindowNo) (hevents : u.events = s.events)
    (hlow : u.alertLow = s.alertLow) (htime : u.timeBase = s.timeBase) :
    Reported (drainDoneReport w) s (completeDrain w u) :=
  reported_of_agree (drainDoneReport w) hevents hlow htime

/-! ### What DISABLE_WINDOW answers (R171) -/

section
variable {s : State} {w : WindowNo}

/-- An OFF window has nothing to drain. -/
theorem runDisableWindow_of_off (h : s.windows[w].state = .off) (b : Byte) :
    runDisableWindow [.ofNat 8 w.val, b] s = rejected .windowOff s := by
  simp only [runDisableWindow, onWindow_ofNat, h]

/-- A LIVE window begins its drain; without the force option its completion is tested at once. -/
theorem runDisableWindow_of_live (h : s.windows[w].state = .live) :
    runDisableWindow [.ofNat 8 w.val, 0] s = accepted (drainTest w (beginDrain w s)) := by
  simp only [runDisableWindow, onWindow_ofNat, h]
  rfl

/-- A LIVE window begins its drain, and the force option forces it in the same event. -/
theorem runDisableWindow_of_live_forced (h : s.windows[w].state = .live) {b : Byte} (hb : b ≠ 0) :
    runDisableWindow [.ofNat 8 w.val, b] s = accepted (forceDrain w (beginDrain w s)) := by
  have hset : optionSet (byteAt [.ofNat 8 w.val, b] 1) = true := decide_eq_true hb
  simp only [runDisableWindow, onWindow_ofNat, h, hset, if_true]

/-- A DRAINING window is left alone without the force option, or once it has been forced. -/
theorem runDisableWindow_of_draining {n : BitVec 16} {forced : Bool} (h : s.windows[w].state = .draining n forced) {b : Byte}
    (hidle : b = 0 ∨ forced = true) : runDisableWindow [.ofNat 8 w.val, b] s = accepted s := by
  have hnot : (optionSet b && !forced) = false := by
    rcases hidle with rfl | rfl
    · rfl
    · exact Bool.and_false _
  have hset : optionSet (byteAt [.ofNat 8 w.val, b] 1) = optionSet b := rfl
  simp only [runDisableWindow, onWindow_ofNat, h, hset, hnot, Bool.false_eq_true, if_false]

/-- A DRAINING window that was not forced yet is forced by the option. -/
theorem runDisableWindow_of_draining_forced {n : BitVec 16} (h : s.windows[w].state = .draining n false) {b : Byte}
    (hb : b ≠ 0) : runDisableWindow [.ofNat 8 w.val, b] s = accepted (forceDrain w s) := by
  have hset : optionSet (byteAt [.ofNat 8 w.val, b] 1) = true := decide_eq_true hb
  simp only [runDisableWindow, onWindow_ofNat, h, hset]
  rfl

end

/-- A LIVE window disabled without the force option. -/
theorem exec_disableWindow_of_live {s : State} {w : WindowNo} (h : FrameArrives s) (hlive : s.windows[w].state = .live) :
    exec (.disableWindow (frameOf 0x13 [.ofNat 8 w.val, 0])) s =
      .next { drainTest w (beginDrain w s) with link := linkAfter 3 (acceptedResponse 0x13 []) } :=
  commandFrame_linkBlind ((linkBlind_drainTest w).comp (linkBlind_beginDrain w)) h rfl
    (runDisableWindow_of_live (s := afterFrame 4 s) hlive)

/-- A LIVE window disabled with the force option. -/
theorem exec_disableWindow_of_live_forced {s : State} {w : WindowNo} {b : Byte} (h : FrameArrives s)
    (hlive : s.windows[w].state = .live) (hb : b ≠ 0) :
    exec (.disableWindow (frameOf 0x13 [.ofNat 8 w.val, b])) s =
      .next { forceDrain w (beginDrain w s) with link := linkAfter 3 (acceptedResponse 0x13 []) } :=
  commandFrame_linkBlind ((linkBlind_forceDrain w).comp (linkBlind_beginDrain w)) h rfl
    (runDisableWindow_of_live_forced (s := afterFrame 4 s) hlive hb)

/-- A window whose drain has begun, with nothing outstanding, is at once OFF by the completion test. -/
theorem drainTest_beginDrain_of_complete {s : State} {w : WindowNo} (h : windowComplete s w = true) :
    drainTest w (beginDrain w s) = completeDrain w (beginDrain w s) :=
  drainTest_of_complete (by simp [beginDrain, Window.isDraining]) h

/-- Settles O46, by the window's state and the force option of R171. -/
theorem disableWindowOutcome : Obligations.DisableWindowOutcome := by
  intro s w b harrives
  refine ⟨fun hoff => ?off, fun hlive hb => ?live, fun hlive hb => ?liveForced, fun n forced hdrains hidle => ?leftAlone,
    fun n hdrains hb => ?drainingForced, fun hlive hb hholds hfills hpark => ?offAtOnce, fun v hv => ?noWindow⟩
  case off => exact commandFrame_rejected harrives rfl (runDisableWindow_of_off (s := afterFrame 4 s) hoff b)
  case live =>
    subst hb
    exact exec_disableWindow_of_live harrives hlive
  case liveForced =>
    exact exec_disableWindow_of_live_forced harrives hlive hb
  case leftAlone =>
    exact commandFrame_linkBlind linkBlind_id harrives rfl
      (runDisableWindow_of_draining (s := afterFrame 4 s) hdrains hidle)
  case drainingForced =>
    exact commandFrame_linkBlind (linkBlind_forceDrain w) harrives rfl
      (runDisableWindow_of_draining_forced (s := afterFrame 4 s) hdrains hb)
  case offAtOnce =>
    subst hb
    have hcomplete : windowComplete s w = true := (windowComplete_iff s w).2 ⟨hholds, hfills, hpark⟩
    have hframe := exec_disableWindow_of_live harrives hlive
    rw [drainTest_beginDrain_of_complete hcomplete] at hframe
    exact ⟨_, hframe, by simp [completeDrain_windows], rfl,
      reported_completeDrain (u := beginDrain w s) w rfl rfl rfl⟩
  case noWindow => exact commandFrame_rejected harrives rfl (onWindow_of_ge hv _ _ _)

end Sys2Proof.Machine
end

section
/-! SUPPORT. CoherenceKept fails: `Coherent` does not ask for the canonical form of the directory's list, and a sweep's
visit that clears the first of two entries of one index uncovers the second. -/

namespace Sys2Proof.Machine

open Sys2Proof.Statements

/-- Window 0 of the counterexample: BANKED, one record of one word, two banks. -/
def uncoveringWindow : Window :=
  ⟨.live, { WinConfig.zero with mode := .banked, bankCount := 2, size := 1, guardLen := 1, count := 1 }, 0, .off⟩

/-- An ACTIVE fill of its record writes bank 1. The list holds directory entry 0 twice: first FRESH with active bank 0,
then with active bank 1. A sweep is about to visit the record. -/
def uncovering : State :=
  { State.reset with
    windows := State.reset.windows.set 0 uncoveringWindow
    fills := State.reset.fills.set 0 { Fill.cleared 0 with state := .active, target := some 1 }
    directory := [(0, ⟨0, 0, true, false, false, 0⟩), (0, ⟨1, 0, false, false, false, 0⟩)]
    sweep := some ⟨0, 0, 0, none⟩
    pending := [.sweepVisit] }

theorem uncovering_holds (i : HoldNo) : uncovering.holds[i] = .cleared := getElem_replicate_fin _ _

theorem uncovering_fill_open {f : FillNo} (h : uncovering.fills[f].state ≠ .free) : f = 0 := by
  revert f; decide +kernel

theorem uncovering_window_decoded {w : WindowNo} (h : uncovering.windows[w].decoded = true) : w = 0 := by
  revert w; decide +kernel

theorem uncovering_coherent : Coherent uncovering := by
  have hclear (i : HoldNo) : uncovering.holds[i].state = .free := by rw [uncovering_holds]; rfl
  have hclosed (i : HoldNo) : uncovering.holds[i].state ≠ .opened := by rw [hclear]; decide
  have hidle (i : HoldNo) : uncovering.holds[i].state ≠ .copying := by rw [hclear]; decide
  constructor
  case fieldsValid =>
    intro w hw
    obtain rfl := uncovering_window_decoded hw
    decide +kernel
  case holdsDistinct => exact fun i _ hi => absurd (hclear i) hi
  case fillsDistinct => exact fun f g hf hg _ _ => (uncovering_fill_open hf).trans (uncovering_fill_open hg).symm
  case holdInService => exact fun i hi => (hi.elim (hclosed i) (hidle i)).elim
  case copyingIsSnap => exact fun i hi => (hidle i hi).elim
  case fillInService =>
    intro f hf
    obtain rfl := uncovering_fill_open hf
    exact ⟨by decide +kernel, by decide +kernel⟩
  case runsApart =>
    exact fun v w hv hw hne =>
      absurd ((uncovering_window_decoded hv).trans (uncovering_window_decoded hw).symm) hne
  case single => exact fun f i _ _ hi => (hclosed i hi).elim
  case face =>
    intro f hf hmode
    obtain rfl := uncovering_fill_open (f := f) (by rw [hf]; decide)
    exact absurd (by decide +kernel) hmode
  case banked =>
    intro f hf _
    obtain rfl := uncovering_fill_open (f := f) (by rw [hf]; decide)
    exact ⟨1, by decide +kernel, by decide +kernel, by decide +kernel, fun i hi => (hclosed i hi).elim⟩

/-- The sweep's visit leaves the second entry of index 0, whose active bank the fill writes. -/
def uncovered : State :=
  { uncovering with directory := [(0, ⟨1, 0, false, false, false, 0⟩)], sweep := none, pending := [] }

theorem uncovering_step : step uncovering = .next uncovered := by
  have hsettled : ({ uncovering with pending := [] } : State).Settled := by decide +kernel
  change execSweepVisit { uncovering with pending := [] } = _
  rw [execSweepVisit, settle_of_settled hsettled]
  exact congrArg _ (by decide +kernel)

theorem uncovered_not_coherent : ¬ Coherent uncovered := by
  intro h
  obtain ⟨k, htarget, -, hactive, -⟩ := h.banked 0 (by decide +kernel) (by decide +kernel)
  have hk : some (1 : Bank) = some k := (show uncovered.fills[(0 : FillNo)].target = some 1 by decide +kernel) ▸ htarget
  cases hk
  exact hactive (by decide +kernel)

/-- Refutes O58: a coherent state whose directory list is not canonical holds entry 0 twice; the visit of a sweep that
clears the first makes the bank that a fill writes the active one. -/
theorem not_coherenceKept : ¬ Obligations.CoherenceKept :=
  fun h => uncovered_not_coherent (h uncovering uncovered uncovering_coherent uncovering_step)

end Sys2Proof.Machine
end

section
/-! SUPPORT. The queue, the resets and the events that cannot occur (log 1, 2, 9, 28; R20, R147, R165), the check byte (R162),
the start and the abort of a frame (R160), and the commands that only read. -/

namespace Sys2Proof.Machine

open Sys2Proof.Statements

/-! ### The lowest-numbered entry -/

/-- The entry found is the lowest-numbered one with the property. -/
theorem find?_finRange_eq_some_iff {n : Nat} {p : Fin n → Bool} {i : Fin n} :
    (List.finRange n).find? p = some i ↔ p i = true ∧ ∀ j : Fin n, p j = true → i ≤ j := by
  have hlowest : ∀ {k : Fin n}, (List.finRange n).find? p = some k → ∀ j : Fin n, p j = true → k ≤ j :=
    fun {k} h j hj => tableFind_lowest (p := p) (v := Vector.ofFn id) (i := k) (by simpa [tableFind] using h) j
      (by simpa using hj)
  constructor
  · exact fun h => ⟨List.find?_some h, hlowest h⟩
  · rintro ⟨hi, hmin⟩
    cases hfound : (List.finRange n).find? p with
    | none => exact absurd hi (List.find?_eq_none.1 hfound i (List.mem_finRange i))
    | some k => rw [le_antisymm (hlowest hfound i hi) (hmin k (List.find?_some hfound))]

/-- The entry of a table found is the lowest-numbered one with the property. -/
theorem tableFind_eq_some_iff {α : Type} {n : Nat} {p : α → Bool} {v : Vector α n} {i : Fin n} :
    tableFind p v = some i ↔ p v[i] = true ∧ ∀ j : Fin n, p v[j] = true → i ≤ j :=
  find?_finRange_eq_some_iff

/-! ### The queue, the resets -/

/-- Settles O1: it is the definition of `step`, on a queue with a front and on the empty one. -/
theorem stepRunsFrontCommand : Obligations.StepRunsFrontCommand := fun _ _ _ => ⟨rfl, rfl⟩

/-- After pin reset every kind is stored but FILL_PUBLISHED; LOST is no member of the set (R158). -/
theorem initial_stores (k : EventKind) :
    EventControl.initial.stores k = decide (k ≠ .fillPublished ∧ k ≠ .lost) := by
  cases k <;> decide

/-- Settles O2, field by field of the reset state. -/
theorem resetValues : Obligations.ResetValues := by
  have hlane (m : Tag) : State.reset.lanes[m] = .empty := getElem_replicate_fin _ m
  refine ⟨fun m => by rw [hlane]; rfl, rfl, rfl, rfl, fun w => getElem_replicate_fin _ w, fun i => rfl,
    fun i => getElem_replicate_fin _ i, fun f => getElem_replicate_fin _ f, rfl, fun k => getElem_replicate_fin _ k, rfl,
    rfl, rfl, rfl, rfl, rfl, rfl, initial_stores, rfl, rfl, rfl, fun w => getElem_replicate_fin _ w, rfl, rfl, rfl, rfl⟩

/-- Settles O3: the definitions of the two resets, and what RESET_N low keeps out. -/
theorem pinResetClearsEverything : Obligations.PinResetClearsEverything := by
  intro s m addr body
  refine ⟨rfl, rfl, fun hlow => ⟨?tick, fun hburst => ?arrival, fun hcs => ?frame⟩⟩
  case tick =>
    change execTick s = _
    rw [execTick, if_pos hlow]
  case arrival =>
    change execRequestArrival m addr body s = _
    rw [execRequestArrival, if_pos hburst, if_pos hlow]
  case frame =>
    change execFrameStart s = _
    simp [execFrameStart, hcs, hlow]

/-! ### What stops the model by name -/

/-- At a settled part a response is taken for the oldest request in flight. -/
theorem exec_segmentResponse {s : State} (h : s.Settled) (resp : MemResponse) :
    exec (.segmentResponse resp) s = respondSegment resp s := by
  change execSegmentResponse resp s = _
  rw [execSegmentResponse, settle_of_settled h]

/-- At a settled part a copy's response is taken for the oldest request in flight. -/
theorem exec_copyResponse {s : State} (h : s.Settled) (beats : List MemBeat) :
    exec (.copyResponse beats) s = respondCopy beats s := by
  change execCopyResponse beats s = _
  rw [execCopyResponse, settle_of_settled h]

/-- Settles O22, refusal by refusal (log 16), and by the two ways in which a response can be malformed (log 15). -/
theorem stopsByName : Obligations.StopsByName := by
  intro s m addr body bytes code
  refine ⟨fun hburst => ?arrival, fun hbytes => ?abort, fun hcode => ?known, ?responses⟩
  case arrival =>
    change execRequestArrival m addr body s = _
    simp [execRequestArrival, hburst]
  case abort =>
    change execFrameAbort bytes 0 s = _
    simp [execFrameAbort, hbytes]
  case known =>
    change execUnknownCommand code bytes s = _
    rw [execUnknownCommand, if_pos (List.contains_iff_mem.2 hcode)]
  case responses =>
    intro x rest p o ov beats st hsettled hlist horigin
    refine ⟨fun hlength => ?_, ?_⟩ <;> rw [exec_segmentResponse hsettled]
    · simp only [respondSegment, hlist, horigin, if_neg hlength]
    · simp only [respondSegment, hlist, horigin]

/-! ### Events that cannot occur (log 2) -/

/-- No window is pending in the empty set. -/
theorem firstPending_of_empty {s : State} (h : s.pendingSweeps = 0) : firstPending s = none := by
  rw [firstPending, h, List.find?_eq_none]
  intro w _
  simp [hasBit]

/-- No sweep starts while one runs, or while none is pending. -/
theorem startSweep_of_not_due {s : State} (h : s.sweep ≠ none ∨ s.pendingSweeps = 0) : startSweep s = s := by
  unfold startSweep
  split
  next => rfl
  next hfree =>
    rw [firstPending_of_empty (h.resolve_left (absurd hfree))]

/-- Settles O26, command by command: each finds nothing of its event. -/
theorem eventsThatCannotOccur : Obligations.EventsThatCannotOccur := by
  intro s resp beats st i f w
  refine ⟨rfl, fun hsettled hlist => ⟨?segment, ?copy, ?release⟩, fun hsettled hgrant => ?delivery, fun hnone => ?sweep,
    fun hnot => ?hold, fun hnot => ?linger, fun hnot => ?fill, fun hnot => ?drain⟩
  case segment => simp only [exec_segmentResponse hsettled, respondSegment, hlist]
  case copy => simp only [exec_copyResponse hsettled, respondCopy, hlist]
  case release => simp only [exec_parkReleaseResponse hsettled, respondRelease, hlist]
  case delivery =>
    change execResponseDelivery s = _
    simp only [execResponseDelivery, settle_of_settled hsettled, deliver, hgrant]
  case sweep => exact congrArg _ (startSweep_of_not_due hnone)
  case hold => exact congrArg _ (if_neg (by simp [hnot]))
  case linger => exact congrArg _ (if_neg (by simp [hnot]))
  case fill => exact congrArg _ (if_neg (by simp [hnot]))
  case drain => exact congrArg _ (if_neg (by simp [hnot]))

/-- Settles O34: the lowest-numbered pending window is the one found. -/
theorem sweepStartsLowest : Obligations.SweepStartsLowest := by
  intro s w hfree hpending hlowest
  have hfirst : firstPending s = some w := find?_finRange_eq_some_iff.2 ⟨hpending, hlowest⟩
  change execSweepStart s = _
  simp only [execSweepStart, startSweep, hfree, hfirst, dropBit]

/-! ### The check byte (R162) -/

/-- The CRC goes on over a second list from where the first has left it. -/
theorem crcFrom_append (c : Byte) (xs ys : List Byte) : crcFrom c (xs ++ ys) = crcFrom (crcFrom c xs) ys := by
  induction xs generalizing c with
  | nil => rfl
  | cons x xs ih => exact ih _

/-- A CRC taken over itself is 0. -/
theorem crcFrom_self (c : Byte) : crcFrom c [c] = 0 := by
  simp only [crcFrom, BitVec.xor_self]
  decide

/-- Settles O37: the reference values by computation, and the check byte as the CRC that meets itself. -/
theorem checkByteReference : Obligations.CheckByteReference := by
  refine ⟨by decide +kernel, by decide +kernel, by decide +kernel, by decide +kernel, by decide +kernel, by decide +kernel,
    fun bs => ?_⟩
  rw [checkByte, crcFrom_append]
  exact crcFrom_self _

/-! ### Frames (R160) -/

/-- An abort at no byte boundary, or of no byte, ends the frame and keeps the holder. -/
theorem exec_frameAbort {s : State} (h : FrameOpen s) {bytes : List Byte} {bits : Fin 8} (habort : bytes = [] ∨ bits ≠ 0) :
    ∃ miso, exec (.frameAbort bytes bits) s =
      .next { s with link := ⟨false, .idle, s.link.holder, miso⟩, freeCount := s.freeCount + 1 } := by
  obtain ⟨hlow, hreceiving⟩ := h
  have hwell : (bytes.isEmpty || decide (bits ≠ 0)) = true := by simpa using habort
  refine ⟨abortMiso s bytes bits, ?_⟩
  change execFrameAbort bytes bits s = _
  rw [execFrameAbort, if_pos hwell, takeFrame_receiving hlow hreceiving]
  rfl

/-- Settles O38, by the two ends of a frame that runs no command. -/
theorem frameStartAndAbort : Obligations.FrameStartAndAbort := by
  intro s bytes bits
  refine ⟨fun hreset hhigh => ?start, fun hopen habort => ?abort⟩
  case start =>
    change execFrameStart s = _
    simp [execFrameStart, hreset, hhigh]
  case abort =>
    obtain ⟨miso, hexec⟩ := exec_frameAbort hopen habort
    exact ⟨_, hexec, rfl⟩

/-! ### The commands that only read (R137, R166) -/

/-- STATUS has 50 bytes (Table 10-7). -/
theorem statusBytes_length (s : State) : (statusBytes s).length = 50 := by
  simp [statusBytes, bytes2, storedBytes]

/-- Settles O41: each of the three commands answers and changes nothing. -/
theorem readingCommandsAnswer : Obligations.ReadingCommandsAnswer := fun s harrives =>
  ⟨commandFrame_answered harrives rfl rfl, commandFrame_answered harrives rfl rfl, statusBytes_length s,
    commandFrame_answered harrives rfl rfl⟩

/-! ### The invariants at reset -/

theorem reset_holds (i : HoldNo) : State.reset.holds[i] = .cleared := getElem_replicate_fin _ i
theorem reset_fills (f : FillNo) : State.reset.fills[f] = .cleared 0 := getElem_replicate_fin _ f
theorem reset_windows (w : WindowNo) : State.reset.windows[w] = .zero := getElem_replicate_fin _ w

/-- No hold stands in the tables that a reset leaves. -/
theorem reset_hold_free (i : HoldNo) : State.reset.holds[i].state = .free := by rw [reset_holds]; rfl

/-- No fill stands in the tables that a reset leaves. -/
theorem reset_fill_free (f : FillNo) : State.reset.fills[f].state = .free := by rw [reset_fills]; rfl

/-- No window is in service after reset. -/
theorem reset_not_decoded (w : WindowNo) : State.reset.windows[w].decoded ≠ true := by rw [reset_windows]; decide

/-- Without holds, fills and windows in service there is nothing to keep apart. -/
theorem reset_coherent : Coherent State.reset where
  fieldsValid := fun w hw => absurd hw (reset_not_decoded w)
  holdsDistinct := fun i _ hi => absurd (reset_hold_free i) hi
  fillsDistinct := fun f _ hf => absurd (reset_fill_free f) hf
  holdInService := fun i hi => by rw [reset_hold_free i] at hi; simp at hi
  copyingIsSnap := fun i hi => by rw [reset_hold_free i] at hi; cases hi
  fillInService := fun f hf => absurd (reset_fill_free f) hf
  runsApart := fun v _ hv => absurd hv (reset_not_decoded v)
  single := fun f _ hf => absurd (reset_fill_free f) hf
  face := fun f hf => by rw [reset_fill_free f] at hf; cases hf
  banked := fun f hf => by rw [reset_fill_free f] at hf; cases hf

/-- Settles O56: the tables, lists and queues of the reset state are empty. -/
theorem resetIsSafe : Obligations.ResetIsSafe := by
  have hlane (m : Tag) : State.reset.lanes[m] = .empty := getElem_replicate_fin _ m
  refine ⟨⟨fun m => ?lane, by decide, by decide, by decide⟩, ⟨⟨.nil, by simp [State.reset]⟩, by simp [FlagsApart, State.reset]⟩,
    ⟨fun i _ => reset_holds i, fun f _ => ?tidy⟩, ⟨by decide, by decide⟩, rfl, reset_coherent,
    ⟨by simp [State.reset], by simp [State.reset], fun f hf => absurd (reset_fill_free f) hf⟩, by simp [LeftoversFirst, State.reset]⟩
  case lane => rw [hlane]; decide
  case tidy => rw [reset_fills]; rfl

end Sys2Proof.Machine
end

section
/-! SUPPORT. The judgement of a frame (R161), FETCH (R164), WRITE_WINDOW and READ_WINDOW (R24), READ_EVENTS (R153),
SET_TIMEBASE (R137) and SET_EVENT_CONTROL (R150): what each command answers and changes. -/

namespace Sys2Proof.Machine

open Sys2Proof.Statements

/-! ### Bad frames (R161) -/

section
variable {s : State} {rest : List Byte} {code : Byte} {n : Nat} {run : List Byte → State → State × Verdict}

/-- A frame of another length than its command's stores LENGTH_ERROR. -/
theorem commandFrame_lengthError (h : FrameOpen s) (hlen : rest.length ≠ n + 1) :
    commandFrame code n run rest s = .next { s with link := linkAfter rest.length ⟨.lengthError, code, []⟩ } := by
  obtain ⟨hlow, hreceiving⟩ := h
  rw [commandFrame, takeFrame_receiving hlow hreceiving, judge, if_pos hlen, Nat.add_comm 1]
  rfl

/-- A frame of the right length with a wrong check byte stores CHECK_FAILED. -/
theorem commandFrame_checkFailed (h : FrameOpen s) (hlen : rest.length = n + 1)
    (hcheck : rest.getLast? ≠ some (checkByte (code :: rest.dropLast))) :
    commandFrame code n run rest s = .next { s with link := linkAfter rest.length ⟨.checkFailed, code, []⟩ } := by
  obtain ⟨hlow, hreceiving⟩ := h
  rw [commandFrame, takeFrame_receiving hlow hreceiving, judge, if_neg (not_not_intro hlen), if_pos hcheck, Nat.add_comm 1]
  rfl

end

/-- Every row of Table 10-1 but FETCH is a command frame of its code and argument length. -/
theorem exec_linkCommand {row : Byte × Nat × (List Byte → Instr)} (h : row ∈ linkCommands) :
    ∃ run, ∀ rest s, exec (row.2.2 rest) s = commandFrame row.1 row.2.1 run rest s := by
  simp only [linkCommands, List.mem_cons, List.not_mem_nil, or_false] at h
  rcases h with rfl | rfl | rfl | rfl | rfl | rfl | rfl | rfl | rfl | rfl | rfl | rfl | rfl | rfl | rfl | rfl | rfl <;>
    exact ⟨_, fun _ _ => rfl⟩

/-- Settles O39, by the order of R161: code, length, check byte. -/
theorem badFramesStoreTheirResult : Obligations.BadFramesStoreTheirResult := by
  intro s rest hopen
  refine ⟨fun code hcode => ?unknown, fun row hrow => ?known⟩
  case unknown =>
    obtain ⟨hlow, hreceiving⟩ := hopen
    change execUnknownCommand code rest s = _
    rw [execUnknownCommand, if_neg (by simpa using hcode), takeFrame_receiving hlow hreceiving, Nat.add_comm 1]
    rfl
  case known =>
    obtain ⟨run, hexec⟩ := exec_linkCommand hrow
    simp only [hexec]
    exact ⟨commandFrame_lengthError hopen, commandFrame_checkFailed hopen⟩

/-! ### FETCH (R164) -/

/-- A FETCH whose frame is received runs on the state whose receiver is idle again. -/
theorem exec_fetch {s : State} (h : FrameOpen s) (rest : List Byte) :
    exec (.fetch rest) s = .next (takeFetch rest (afterFrame (1 + rest.length) s)) := by
  obtain ⟨hlow, hreceiving⟩ := h
  exact congrArg _ (takeFrame_receiving hlow hreceiving _ _)

/-- A FETCH with a right byte 1 clocks the response out from byte 2 on. -/
theorem fetchMiso_of_checked (s : State) (more : List Byte) :
    fetchMiso s (0x7D :: more) = [0, 0] ++ clocked (fetchResponse s).bytes more.length := by
  have hmin : min 2 (1 + (more.length + 1)) = 2 := by omega
  simp only [fetchMiso, List.headD_cons, if_true, List.length_cons, hmin, Nat.add_sub_cancel]
  rfl

/-- It is complete when every byte of the response has been clocked. -/
theorem fetchComplete_of_checked (s : State) (more : List Byte) :
    fetchComplete s (0x7D :: more) = decide ((fetchResponse s).bytes.length ≤ more.length) := by
  simp [fetchComplete]

/-- A FETCH with a wrong byte 1 is never complete. -/
theorem fetchComplete_of_unchecked (s : State) {b : Byte} (h : b ≠ 0x7D) (more : List Byte) :
    fetchComplete s (b :: more) = false := by
  have hbyte : ¬ b = 125#8 := h
  simp [fetchComplete, hbyte]

/-- Settles O40, by byte 1 of the frame, and by how many bytes were clocked after it. -/
theorem fetchClocksTheResponse : Obligations.FetchClocksTheResponse := by
  intro s more hopen r
  have hheld (n : Nat) : fetchResponse (afterFrame n s) = s.link.holder.getD ⟨.none, 0, []⟩ := rfl
  refine ⟨⟨_, exec_fetch hopen _, ?miso, ?holder, ?low, ?receiver, ?frame⟩, fun b hb => ⟨_, exec_fetch hopen _, ?kept, ?frame'⟩⟩
  case kept => simp only [takeFetch, fetchComplete_of_unchecked _ hb]; rfl
  case frame' => simp only [takeFetch, fetchComplete_of_unchecked _ hb]; rfl
  all_goals
    simp only [takeFetch, fetchComplete_of_checked, fetchMiso_of_checked, hheld, decide_eq_true_eq]
    split
  all_goals rfl

/-! ### Numbers read back from their bytes (section 10.7) -/

/-- Two halves of a number joined again. -/
theorem bytes2_joined (x : BitVec 16) : (x.extractLsb' 8 8 ++ x.extractLsb' 0 8 : BitVec 16) = x :=
  (BitVec.extractLsb'_append_extractLsb'_eq_extractLsb' (by omega)).trans (by simp)

/-- Four bytes of a number joined again. -/
theorem bytes4_joined (x : BitVec 32) :
    ((x.extractLsb' 24 8 ++ x.extractLsb' 16 8 : BitVec 16) ++ (x.extractLsb' 8 8 ++ x.extractLsb' 0 8 : BitVec 16)
      : BitVec 32) = x := by
  have hhigh : (x.extractLsb' 24 8 ++ x.extractLsb' 16 8 : BitVec 16) = x.extractLsb' 16 16 :=
    BitVec.extractLsb'_append_extractLsb'_eq_extractLsb' (by omega)
  have hlow : (x.extractLsb' 8 8 ++ x.extractLsb' 0 8 : BitVec 16) = x.extractLsb' 0 16 :=
    BitVec.extractLsb'_append_extractLsb'_eq_extractLsb' (by omega)
  rw [hhigh, hlow]
  exact (BitVec.extractLsb'_append_extractLsb'_eq_extractLsb' (by omega)).trans (by simp)

/-- Two bytes as a number, and four, most significant first. -/
def join2 (a b : Byte) : BitVec 16 := a ++ b
def join4 (a b c d : Byte) : BitVec 32 := join2 a b ++ join2 c d

theorem half_eq_join2 (bs : List Byte) (i : Nat) : half bs i = join2 (byteAt bs i) (byteAt bs (i + 1)) := rfl

theorem word4_eq_join4 (bs : List Byte) (i : Nat) :
    word4 bs i = join4 (byteAt bs i) (byteAt bs (i + 1)) (byteAt bs (i + 2)) (byteAt bs (i + 3)) := rfl

theorem join2_bytes (x : BitVec 16) : join2 (x.extractLsb' 8 8) (x.extractLsb' 0 8) = x := bytes2_joined x

theorem join4_bytes (x : BitVec 32) :
    join4 (x.extractLsb' 24 8) (x.extractLsb' 16 8) (x.extractLsb' 8 8) (x.extractLsb' 0 8) = x := bytes4_joined x

/-- A word address is read back from its bytes. -/
theorem addrOf_setWidth (a : WordAddr) : addrOf (a.setWidth 32) = some a := by
  have hval : (a.setWidth 32).toNat = a.toNat := by simp; omega
  simp only [addrOf, hval, a.isLt, if_true, BitVec.ofNat_toNat, BitVec.setWidth_eq]

theorem modeOf_code (x : Mode) : modeOf (byte x.code) = some x := by cases x <;> decide
theorem yieldOf_code (x : YieldPolicy) : yieldOf (byte x.code) = some x := by cases x <;> decide
theorem freshOf_code (x : FreshMode) : freshOf (byte x.code) = some x := by cases x <;> decide
theorem staleOf_code (x : StalePolicy) : staleOf (byte x.code) = some x := by cases x <;> decide
theorem guardOf_code (x : BankGuard) : guardOf (byte x.code) = some x := by cases x <;> decide
theorem producerOf_code (x : Producer) : producerOf (byte x.code) = some x := by
  cases x with
  | any => decide
  | master m => revert m; decide

/-! ### WRITE_WINDOW and READ_WINDOW (R24, R167) -/

/-- The 43 configured bytes carry every configured field (Table 10-3). -/
theorem parseConfig_configBytes (b : Byte) (c : WinConfig) : parseConfig (b :: configBytes c) = some c := by
  simp only [parseConfig, configBytes, bytesAddr, bytes2, bytes4, word4_eq_join4, half_eq_join2, byteAt,
    List.cons_append, List.nil_append, List.getD_cons_succ, List.getD_cons_zero, Nat.reduceAdd, join2_bytes, join4_bytes,
    addrOf_setWidth, modeOf_code,
    yieldOf_code, freshOf_code, staleOf_code, guardOf_code, producerOf_code]

section
variable {s : State} {w : WindowNo} {args : List Byte}

/-- A window in service is not written. -/
theorem runWriteWindow_of_inService (h : s.windows[w].state ≠ .off) :
    runWriteWindow (.ofNat 8 w.val :: args) s = rejected .windowNotOff s := by
  rw [runWriteWindow, onWindow_ofNat, if_pos (by simpa [← decoded_eq_false_iff] using h)]

/-- Arguments that carry no configuration are refused. -/
theorem runWriteWindow_of_unparsed (h : s.windows[w].state = .off) (hparse : parseConfig (.ofNat 8 w.val :: args) = none) :
    runWriteWindow (.ofNat 8 w.val :: args) s = rejected .badArgument s := by
  simp only [runWriteWindow, onWindow_ofNat, (decoded_eq_false_iff _).2 h, hparse, Bool.false_eq_true, if_false]

/-- Arguments that carry one replace the configured fields of an OFF window. -/
theorem runWriteWindow_of_parsed {c : WinConfig} (h : s.windows[w].state = .off)
    (hparse : parseConfig (.ofNat 8 w.val :: args) = some c) :
    runWriteWindow (.ofNat 8 w.val :: args) s = accepted (s.setWindow w { s.windows[w] with cfg := c }) := by
  simp only [runWriteWindow, onWindow_ofNat, (decoded_eq_false_iff _).2 h, hparse, Bool.false_eq_true, if_false]

end

/-- The configured bytes are 43. -/
theorem configBytes_length (c : WinConfig) : (configBytes c).length = 43 := by
  simp [configBytes, bytesAddr, bytes2, bytes4]

/-- Settles O43, by the checks of WRITE_WINDOW in their order. -/
theorem windowWrittenAndRead : Obligations.WindowWrittenAndRead := by
  intro s w c b args harrives
  refine ⟨fun hoff => ?written, fun hlen hin => ?inService, fun hlen hb => ?noWindow, fun hlen hoff hparse => ?unparsed, ?read,
    configBytes_length c, parseConfig_configBytes b c⟩
  case written =>
    have hparse := parseConfig_configBytes (.ofNat 8 w.val) c
    have hlen : (.ofNat 8 w.val :: configBytes c).length = 44 := congrArg Nat.succ (configBytes_length c)
    exact (commandFrame_accepted harrives hlen (runWriteWindow_of_parsed (s := afterFrame 46 s) hoff hparse)).trans rfl
  case inService =>
    exact commandFrame_rejected harrives (congrArg Nat.succ hlen) (runWriteWindow_of_inService (s := afterFrame 46 s) hin)
  case noWindow => exact commandFrame_rejected harrives (congrArg Nat.succ hlen) (onWindow_of_ge hb _ _ _)
  case unparsed =>
    exact commandFrame_rejected harrives (congrArg Nat.succ hlen)
      (runWriteWindow_of_unparsed (s := afterFrame 46 s) hoff hparse)
  case read => exact commandFrame_answered harrives rfl (onWindow_ofNat w [] _ _)

/-! ### READ_EVENTS (R153, R155) -/

/-- The age countdown is reloaded when a head is left in the queue. -/
theorem eventUnit_pop (n : Nat) (u : EventUnit) :
    u.pop n = { u with
      queue := u.queue.drop n, age := if u.queue.length ≤ n then u.age else u.control.latency } := by
  simp only [EventUnit.pop, List.isEmpty_iff, List.drop_eq_nil_iff]

/-- A count of 1 to 4 pops that many records. -/
theorem runReadEvents_of_count {n : Byte} (h : 1 ≤ n.toNat ∧ n.toNat ≤ 4) (s : State) :
    runReadEvents [n] s = (driveAlert { s with events := s.events.pop n.toNat },
      .accepted (poppedBytes (s.events.queue.take n.toNat))) :=
  if_pos h

/-- Settles O50, by the count. -/
theorem readEventsPops : Obligations.ReadEventsPops := by
  intro s n harrives
  refine ⟨fun hlow hhigh => ?popped, fun hcount => ?refused⟩
  case popped =>
    have hframe := commandFrame_of_arrives (code := 0x28) (run := runReadEvents) harrives (show [n].length = 1 from rfl)
    rw [runReadEvents_of_count ⟨hlow, hhigh⟩] at hframe
    exact ⟨_, hframe, eventUnit_pop _ _, rfl, rfl⟩
  case refused => exact commandFrame_rejected harrives rfl (if_neg (by simp only [byteAt, List.getD_cons_zero]; omega))

/-! ### SET_TIMEBASE (R137) -/

/-- A run-state byte of 0 or 1 names the run state. -/
theorem runOf_of_le {b : Byte} (h : b.toNat ≤ 1) : runOf b = some (if b = 0 then .stopped else .running) := by
  have hval : b = 0 ∨ b = 1 := by bv_omega
  rcases hval with rfl | rfl <;> rfl

/-- A run-state byte above 1 names none. -/
theorem runOf_of_gt {b : Byte} (h : 1 < b.toNat) : runOf b = none := by
  have hzero : b ≠ 0 := by bv_omega
  have hone : b ≠ 1 := by bv_omega
  simp only [runOf, hzero, hone, if_false]

/-- Settles O52, by the run-state byte and the prescaler. -/
theorem setTimebaseOutcome : Obligations.SetTimebaseOutcome := by
  intro s run p load v harrives
  have hvalue : word4 ([run, p, load] ++ bytes4 v) 3 = v := join4_bytes v
  refine ⟨fun hrun hp => ?set, fun hbad => ?refused⟩
  case set =>
    have hresult : runSetTimebase ([run, p, load] ++ bytes4 v) (afterFrame 9 s) = accepted { afterFrame 9 s with
        timeBase := ⟨if load = 0 then s.timeBase.value else v, p.setWidth 4, if run = 0 then .stopped else .running⟩ } := by
      have hprescaler : (byteAt ([run, p, load] ++ bytes4 v) 1).toNat ≤ 15 := hp
      have hnamed : runOf (byteAt ([run, p, load] ++ bytes4 v) 0) = _ := runOf_of_le hrun
      have hload : optionSet (byteAt ([run, p, load] ++ bytes4 v) 2) = decide (load ≠ 0) := rfl
      simp only [runSetTimebase, hnamed, hprescaler, if_true, hvalue, hload]
      by_cases hzero : load = 0
      · simp [hzero, afterFrame]; rfl
      · simp only [hzero, ne_eq, not_false_eq_true, decide_true, if_true, if_false]; rfl
    exact (commandFrame_accepted harrives rfl hresult).trans rfl
  case refused =>
    refine commandFrame_rejected harrives rfl ?_
    by_cases hrun : 1 < run.toNat
    · have hnamed : runOf (byteAt ([run, p, load] ++ bytes4 v) 0) = none := runOf_of_gt hrun
      simp only [runSetTimebase, hnamed]
    · have hnamed : runOf (byteAt ([run, p, load] ++ bytes4 v) 0) = _ := runOf_of_le (Nat.not_lt.1 hrun)
      have hprescaler : ¬ (byteAt ([run, p, load] ++ bytes4 v) 1).toNat ≤ 15 := Nat.not_le.2 (hbad.resolve_left hrun)
      simp only [runSetTimebase, hnamed, if_neg hprescaler]

/-! ### SET_EVENT_CONTROL (R150) -/

/-- Three bytes name a stored-kinds set when no bit above the 18 kinds is set. -/
theorem storedOf_eq (b0 b1 b2 : Byte) (more : List Byte) :
    storedOf (b0 :: b1 :: b2 :: more) = if b0.toNat < 4 then some ((b0 ++ b1 ++ b2).setWidth 18) else none := by
  have hargs : (byteAt (b0 :: b1 :: b2 :: more) 0 ++ half (b0 :: b1 :: b2 :: more) 1 : BitVec 24) = b0 ++ b1 ++ b2 :=
    (BitVec.append_assoc (x₁ := b0) (x₂ := b1) (x₃ := b2)).symm.trans (by rfl)
  have hbound : (b0 ++ b1 ++ b2).toNat < 2 ^ 18 ↔ b0.toNat < 4 := by
    rw [BitVec.toNat_append, BitVec.toNat_append, ← Nat.shiftLeft_add_eq_or_of_lt b2.isLt, ← Nat.shiftLeft_add_eq_or_of_lt b1.isLt,
      Nat.shiftLeft_eq, Nat.shiftLeft_eq]
    omega
  simp only [storedOf, hargs, hbound]

/-- Settles O53, by the stored-kinds bytes and the threshold. -/
theorem setEventControlOutcome : Obligations.SetEventControlOutcome := by
  intro s b0 b1 b2 th latency harrives
  have hstored := storedOf_eq b0 b1 b2 ([th] ++ bytes2 latency)
  have hlatency : half ([b0, b1, b2, th] ++ bytes2 latency) 4 = latency := join2_bytes latency
  refine ⟨fun hb0 hlow hhigh => ?set, fun hbad => ?refused⟩
  case set =>
    have hresult : runSetEventControl ([b0, b1, b2, th] ++ bytes2 latency) (afterFrame 8 s) = accepted (driveAlert
        { afterFrame 8 s with
          events := s.events.withControl ⟨(b0 ++ b1 ++ b2).setWidth 18, th.toNat, latency⟩ }) := by
      have hset : storedOf ([b0, b1, b2, th] ++ bytes2 latency) = some _ := hstored.trans (if_pos hb0)
      have hthreshold : 1 ≤ (byteAt ([b0, b1, b2, th] ++ bytes2 latency) 3).toNat
          ∧ (byteAt ([b0, b1, b2, th] ++ bytes2 latency) 3).toNat ≤ 64 := ⟨hlow, hhigh⟩
      simp only [runSetEventControl, hset, if_pos hthreshold, hlatency]
      rfl
    refine ⟨_, commandFrame_accepted harrives rfl hresult, ?_, rfl, rfl⟩
    simp [store, driveAlert, EventUnit.withControl]
  case refused =>
    refine commandFrame_rejected harrives rfl ?_
    by_cases hb0 : b0.toNat < 4
    · have hset : storedOf ([b0, b1, b2, th] ++ bytes2 latency) = some _ := hstored.trans (if_pos hb0)
      have hthreshold : ¬ (1 ≤ (byteAt ([b0, b1, b2, th] ++ bytes2 latency) 3).toNat
          ∧ (byteAt ([b0, b1, b2, th] ++ bytes2 latency) 3).toNat ≤ 64) := by
        change ¬ (1 ≤ th.toNat ∧ th.toNat ≤ 64)
        omega
      simp only [runSetEventControl, hset, if_neg hthreshold]
    · have hset : storedOf ([b0, b1, b2, th] ++ bytes2 latency) = none := hstored.trans (if_neg hb0)
      simp only [runSetEventControl, hset]

end Sys2Proof.Machine
end

section
/-! SUPPORT. Validation (R33 to R35), WRITE_RECORD (R43) and SOFT_RESET (R170). -/

namespace Sys2Proof.Machine

open Sys2Proof.Statements

/-! ### Ranges (R28, R34) -/

/-- Two ranges overlap when some word lies in both. -/
theorem overlaps_iff (x y : Nat × Nat) :
    overlaps x y = true ↔ ∃ a, (x.1 ≤ a ∧ a < x.1 + x.2) ∧ y.1 ≤ a ∧ a < y.1 + y.2 := by
  simp only [overlaps, decide_eq_true_eq]
  refine ⟨fun h => ⟨max x.1 y.1, by omega⟩, ?_⟩
  rintro ⟨a, ha⟩
  omega

/-- The banks used are those below the bank count, in BANKED mode. -/
theorem mem_usedBanks (c : WinConfig) (k : Bank) : k ∈ c.usedBanks ↔ UsesBank c k := by
  unfold WinConfig.usedBanks UsesBank
  split <;> simp_all

/-- The configured fields of the windows in service are those of the windows that are not OFF. -/
theorem mem_inService {s : State} {c : WinConfig} : c ∈ inService s ↔ ∃ v : WindowNo, s.windows[v].state ≠ .off ∧ s.cfg v = c := by
  have hdecoded (v : WindowNo) : s.windows[v].decoded = true ↔ s.windows[v].state ≠ .off := by
    rw [ne_eq, ← decoded_eq_false_iff, Bool.not_eq_false]
  simp only [inService, List.mem_map, mem_tableAll, hdecoded]

/-- A condition that some window in service meets. -/
theorem any_inService {s : State} {p : WinConfig → Bool} :
    (inService s).any p = true ↔ ∃ v : WindowNo, s.windows[v].state ≠ .off ∧ p (s.cfg v) = true := by
  simp only [List.any_eq_true, mem_inService]
  constructor
  · rintro ⟨_, ⟨v, hv, rfl⟩, hp⟩
    exact ⟨v, hv, hp⟩
  · rintro ⟨v, hv, hp⟩
    exact ⟨_, ⟨v, hv, rfl⟩, hp⟩

/-- A range meets the face or a used bank range of a window when it shares a word that the window claims. -/
theorem any_usedRanges (c : WinConfig) (r : Nat × Nat) :
    c.usedRanges.any (overlaps r) = true ↔ ∃ a, (r.1 ≤ a ∧ a < r.1 + r.2) ∧ Claims c a := by
  simp only [WinConfig.usedRanges, List.any_cons, Bool.or_eq_true, List.any_map, List.any_eq_true, Function.comp_apply,
    overlaps_iff, mem_usedBanks]
  constructor
  · rintro (⟨a, ha, hface⟩ | ⟨k, hk, a, ha, hbank⟩)
    · exact ⟨a, ha, .inl hface⟩
    · exact ⟨a, ha, .inr ⟨k, hk, hbank⟩⟩
  · rintro ⟨a, ha, hface | ⟨k, hk, hbank⟩⟩
    · exact .inl ⟨a, ha, hface⟩
    · exact .inr ⟨k, hk, a, ha, hbank⟩

/-- A range meets a decoded range when it shares a word that a window in service claims (R34). -/
theorem meetsDecoded_iff (s : State) (r : Nat × Nat) :
    meetsDecoded s r = true ↔ ∃ v : WindowNo, s.windows[v].state ≠ .off
      ∧ ∃ a, (r.1 ≤ a ∧ a < r.1 + r.2) ∧ Claims (s.cfg v) a := by
  simp only [meetsDecoded, any_inService, any_usedRanges]

/-- The ranges of a window pass the end of the address space when its face does or a used bank range. -/
theorem wrapsRange_iff (c : WinConfig) :
    c.wrapsRange = true ↔ 2 ^ 30 < c.faceBase.toNat + c.count.toNat * c.size.toNat
      ∨ ∃ k, UsesBank c k ∧ 2 ^ 30 < (c.bankBase k).toNat + c.count.toNat * c.size.toNat := by
  simp only [WinConfig.wrapsRange, WinConfig.usedRanges, List.any_cons, Bool.or_eq_true, List.any_map, List.any_eq_true,
    Function.comp_apply, mem_usedBanks, WinConfig.passesEnd, decide_eq_true_eq]
  rfl

/-- A used bank range meets another range of the window or a decoded range (R33, order 8). -/
theorem bankOverlap_iff (s : State) (c : WinConfig) :
    bankOverlap s c = true ↔ ∃ k a, UsesBank c k ∧ InRangeOf c (c.bankBase k) a ∧ (InRangeOf c c.faceBase a
      ∨ (∃ j, j ≠ k ∧ UsesBank c j ∧ InRangeOf c (c.bankBase j) a)
      ∨ ∃ v : WindowNo, s.windows[v].state ≠ .off ∧ Claims (s.cfg v) a) := by
  simp only [bankOverlap, List.any_eq_true, Bool.or_eq_true, Bool.and_eq_true, mem_usedBanks, overlaps_iff,
    meetsDecoded_iff, decide_eq_true_eq]
  constructor
  · rintro ⟨k, hk, (⟨a, ha, hface⟩ | ⟨v, hv, a, ha, hclaims⟩) | ⟨j, hj, hne, a, ha, hbank⟩⟩
    · exact ⟨k, a, hk, ha, .inl hface⟩
    · exact ⟨k, a, hk, ha, .inr (.inr ⟨v, hv, hclaims⟩)⟩
    · exact ⟨k, a, hk, ha, .inr (.inl ⟨j, hne, hj, hbank⟩)⟩
  · rintro ⟨k, a, hk, ha, hface | ⟨j, hne, hj, hbank⟩ | ⟨v, hv, hclaims⟩⟩
    · exact ⟨k, hk, .inl (.inl ⟨a, ha, hface⟩)⟩
    · exact ⟨k, hk, .inr ⟨j, hj, hne, a, ha, hbank⟩⟩
    · exact ⟨k, hk, .inl (.inr ⟨v, hv, a, ha, hclaims⟩)⟩

/-! ### The conditions of Table 2-4 (R33) -/

/-- A check of the model says what its row of Table 2-4 says. -/
def Checks (x : Bool × Reason) (row : Reason × Prop) : Prop := x.2 = row.1 ∧ (x.1 = true ↔ row.2)

theorem enableChecks_table24 (s : State) (c : WinConfig) : List.Forall₂ Checks (enableChecks s c) (table24 s c) := by
  refine .cons ⟨rfl, ?size⟩ (.cons ⟨rfl, ?guard⟩ (.cons ⟨rfl, ?bankCount⟩ (.cons ⟨rfl, wrapsRange_iff c⟩
    (.cons ⟨rfl, ?directory⟩ (.cons ⟨rfl, ?directoryOverlap⟩ (.cons ⟨rfl, meetsDecoded_iff s c.faceRange⟩
      (.cons ⟨rfl, bankOverlap_iff s c⟩ (.cons ⟨rfl, ?limit⟩ (.cons ⟨rfl, ?period⟩ .nil)))))))))
  case size => simp [WinConfig.badSize, or_assoc]
  case guard => simp [WinConfig.badGuard, or_assoc]
  case bankCount => simp [WinConfig.badBankCount, and_assoc]
  case directory => exact decide_eq_true_iff
  case directoryOverlap =>
    simp only [any_inService, overlaps_iff]
    rfl
  case limit => simp [WinConfig.lacksLimit, or_assoc, imp_iff_not_or]
  case period => simp [WinConfig.badPeriod]

/-- Such checks give the reasons of the table, in its order. -/
theorem reasons_of_checks {checks : List (Bool × Reason)} {table : List (Reason × Prop)}
    (h : List.Forall₂ Checks checks table) : checks.map Prod.snd = table.map Prod.fst := by
  induction h with
  | nil => rfl
  | cons hrow _ ih => simp [hrow.1, ih]

/-- Of checks that say what the rows of a table say, the first to hold is that of the first row that holds. -/
theorem find?_checks {checks : List (Bool × Reason)} {table : List (Reason × Prop)} (h : List.Forall₂ Checks checks table)
    (hdistinct : (table.map Prod.fst).Nodup) :
    (∀ before why refused after, table = before ++ (why, refused) :: after →
        ((checks.find? Prod.fst).map Prod.snd = some why ↔ refused ∧ ∀ x ∈ before, ¬ x.2))
      ∧ ((checks.find? Prod.fst).map Prod.snd = none ↔ ∀ x ∈ table, ¬ x.2) := by
  induction h with
  | nil => simp
  | @cons x row checks rows hrow hchecks ih =>
    obtain ⟨hreason, hholds⟩ := hrow
    obtain ⟨hnotin, hrows⟩ := List.nodup_cons.1 (List.map_cons ▸ hdistinct)
    obtain ⟨ihsome, ihnone⟩ := ih hrows
    by_cases hx : x.1 = true
    · have hhead : row.2 := hholds.1 hx
      simp only [List.find?_cons, hx, Option.map_some, hreason]
      refine ⟨fun before why refused after htable => ?_, by simp [hhead]⟩
      cases before with
      | nil =>
        obtain ⟨rfl, -⟩ := List.cons.inj htable
        have : refused := hhead
        simp [this]
      | cons y before =>
        obtain ⟨rfl, hrest⟩ := List.cons.inj htable
        have hin : why ∈ rows.map Prod.fst := by simp [hrest]
        have hne : row.1 ≠ why := fun heq => hnotin (heq ▸ hin)
        simp [hne, hhead]
    · have hnot : ¬ row.2 := fun hrow => hx (hholds.2 hrow)
      have hskip : (x :: checks).find? Prod.fst = checks.find? Prod.fst := List.find?_cons_of_neg hx
      rw [hskip]
      refine ⟨fun before why refused after htable => ?_, by simp [ihnone, hnot]⟩
      cases before with
      | nil =>
        obtain ⟨rfl, -⟩ := List.cons.inj htable
        have hother : (checks.find? Prod.fst).map Prod.snd ≠ some why := by
          intro hfound
          obtain ⟨y, hy, rfl⟩ := Option.map_eq_some_iff.1 hfound
          exact hnotin (reasons_of_checks hchecks ▸ List.mem_map_of_mem (List.mem_of_find?_eq_some hy))
        have : ¬ refused := hnot
        simp [hother, this]
      | cons y before =>
        obtain ⟨rfl, hrest⟩ := List.cons.inj htable
        simp [ihsome before why refused after hrest, hnot]

/-- Settles O45: the model's checks are the rows of Table 2-4, in order, and its reasons are distinct. -/
theorem validationOrder : Obligations.ValidationOrder := fun s c =>
  find?_checks (enableChecks_table24 s c) (by simp [table24])

/-! ### WRITE_RECORD (R43) -/

/-- A bank byte names the bank. -/
theorem bankOf_ofNat (k : Bank) : bankOf (.ofNat 8 k.val) = some k := by revert k; decide

/-- A bank byte above 2 names none. -/
theorem bankOf_eq_none {b : Byte} (h : 3 ≤ b.toNat) : bankOf b = none := dif_neg (Nat.not_lt.2 h)

/-- The flags byte carries the three flags (Table 10-4). -/
theorem flags_read (fresh stale damaged : Bool) :
    (byte (bit fresh 0 + bit stale 1 + bit damaged 2)).getLsbD 0 = fresh
      ∧ (byte (bit fresh 0 + bit stale 1 + bit damaged 2)).getLsbD 1 = stale
      ∧ (byte (bit fresh 0 + bit stale 1 + bit damaged 2)).getLsbD 2 = damaged := by
  revert fresh stale damaged; decide

/-- An entry lies in the run of a window in service. -/
theorem entryInService_iff (s : State) (i : Nat) :
    entryInService s i = true ↔ ∃ v : WindowNo, s.windows[v].state ≠ .off ∧ (s.cfg v).ownsEntry i = true :=
  any_inService

/-- The argument bytes of WRITE_RECORD: window, record, and the entry with a bank byte of its own. -/
def recordArgs (w : WindowNo) (r : BitVec 16) (bank : Byte) (e : DirEntry) : List Byte :=
  .ofNat 8 w.val :: (bytes2 r ++ bank :: (dirEntryBytes e).drop 1)

section
variable {s : State} {w : WindowNo} {r : BitVec 16} {bank : Byte} {e : DirEntry}

theorem recordArgs_length : (recordArgs w r bank e).length = 11 := by simp [recordArgs, bytes2, dirEntryBytes, bytes4]

/-- The record they name. -/
theorem half_recordArgs : half (recordArgs w r bank e) 1 = r := join2_bytes r

/-- The entry they carry, with any active bank. -/
theorem givenEntry_recordArgs (k : Bank) : givenEntry (recordArgs w r bank e) k = { e with activeBank := k } := by
  obtain ⟨hfresh, hstale, hdamaged⟩ := flags_read e.fresh e.stale e.damaged
  have hversion : half (recordArgs w r bank e) 4 = e.version := join2_bytes _
  have hstamp : word4 (recordArgs w r bank e) 7 = e.publishedAt := join4_bytes _
  have hflags : byteAt (recordArgs w r bank e) 6 = byte (bit e.fresh 0 + bit e.stale 1 + bit e.damaged 2) := rfl
  simp only [givenEntry, hversion, hstamp, hflags, hfresh, hstale, hdamaged]

/-- WRITE_RECORD of an OFF window, for an entry that exists and is in no run in service, by flags and bank. -/
theorem runWriteRecord_of_writable (hoff : s.windows[w].state = .off) (hrecord : (s.cfg w).hasRecord r.toNat = true)
    (hfree : entryInService s ((s.cfg w).dirIndex r.toNat) = false) :
    runWriteRecord (recordArgs w r bank e) s =
      if e.fresh && e.stale then rejected .badFlags s
      else match (bankOf bank).filter (s.cfg w).allowsBank with
        | none => rejected .badBank s
        | some k => accepted (s.setDir ((s.cfg w).dirIndex r.toNat) { e with activeBank := k }) := by
  obtain ⟨hfresh, hstale, -⟩ := flags_read e.fresh e.stale e.damaged
  have hflags : byteAt (recordArgs w r bank e) 6 = byte (bit e.fresh 0 + bit e.stale 1 + bit e.damaged 2) := rfl
  have hbank : givenBank (s.cfg w) (recordArgs w r bank e) = (bankOf bank).filter (s.cfg w).allowsBank := rfl
  rw [runWriteRecord, recordArgs, onWindow_ofNat, ← recordArgs]
  simp only [half_recordArgs, hbank, hflags, hfresh, hstale, givenEntry_recordArgs, (decoded_eq_false_iff _).2 hoff, hrecord,
    hfree, Bool.not_true, Bool.false_eq_true, if_false] <;> rfl

/-- A window in service is not written. -/
theorem runWriteRecord_of_inService (h : s.windows[w].state ≠ .off) :
    runWriteRecord (recordArgs w r bank e) s = rejected .windowNotOff s := by
  rw [runWriteRecord, recordArgs, onWindow_ofNat, if_pos (by simpa [← decoded_eq_false_iff] using h)]

/-- A record beyond the stored N, or beyond the directory, is REJECTED with BAD_INDEX. -/
theorem runWriteRecord_of_noRecord (hoff : s.windows[w].state = .off) (h : (s.cfg w).hasRecord r.toNat = false) :
    runWriteRecord (recordArgs w r bank e) s = rejected .badIndex s := by
  rw [runWriteRecord, recordArgs, onWindow_ofNat, ← recordArgs]
  simp only [half_recordArgs, (decoded_eq_false_iff _).2 hoff, h, Bool.not_false, Bool.false_eq_true, if_true, if_false]

/-- An entry in the run of a window in service is not written. -/
theorem runWriteRecord_of_entryInService (hoff : s.windows[w].state = .off) (hrecord : (s.cfg w).hasRecord r.toNat = true)
    (h : entryInService s ((s.cfg w).dirIndex r.toNat) = true) :
    runWriteRecord (recordArgs w r bank e) s = rejected .windowNotOff s := by
  rw [runWriteRecord, recordArgs, onWindow_ofNat, ← recordArgs]
  simp only [half_recordArgs, (decoded_eq_false_iff _).2 hoff, hrecord, h, Bool.not_true, Bool.false_eq_true, if_true,
    if_false]

end

/-- Settles O48, by the checks of R43 in their order. -/
theorem writeRecordOutcome : Obligations.WriteRecordOutcome := by
  intro s w r e b x harrives hdir
  have hrefused {bank : Byte} {why : Reason}
      (hrun : runWriteRecord (recordArgs w r bank e) (afterFrame 13 s) = rejected why (afterFrame 13 s)) :
      exec (.writeRecord (frameOf 0x19 (recordArgs w r bank e))) s =
        .next { s with link := linkAfter 12 (rejectedResponse 0x19 why) } :=
    commandFrame_rejected harrives recordArgs_length hrun
  have hown : (byte e.activeBank.val : Byte) = .ofNat 8 e.activeBank.val := rfl
  refine ⟨fun hb => ?noWindow, fun hin => hrefused (runWriteRecord_of_inService (s := afterFrame 13 s) hin),
    fun hoff hnot => ?noRecord, fun hoff hcount hentry => ⟨fun hin => ?entryInService, fun hfree => ?writable⟩⟩
  case noWindow =>
    exact commandFrame_rejected harrives (recordArgs_length (w := w) (r := r) (bank := byte e.activeBank.val) (e := e))
      (onWindow_of_ge hb _ _ _)
  case noRecord =>
    refine hrefused (runWriteRecord_of_noRecord (s := afterFrame 13 s) hoff ?_)
    have hno : ¬ (s.cfg w).hasRecord r.toNat = true := by
      rw [hasRecord_iff]
      omega
    exact Bool.eq_false_iff.2 hno
  case entryInService =>
    exact hrefused (runWriteRecord_of_entryInService (s := afterFrame 13 s) hoff ((hasRecord_iff _ _).2 ⟨hcount, hentry⟩)
      ((entryInService_iff _ _).2 hin))
  case writable =>
    have hunused : entryInService s ((s.cfg w).dirIndex r.toNat) = false := by
      rw [Bool.eq_false_iff, ne_eq, entryInService_iff]
      rintro ⟨v, hv, howns⟩
      exact Bool.false_ne_true ((hfree v hv).symm.trans howns)
    have hrun (bank : Byte) := runWriteRecord_of_writable (s := afterFrame 13 s) (bank := bank) (e := e) hoff
      ((hasRecord_iff _ _).2 ⟨hcount, hentry⟩) hunused
    refine ⟨fun hfresh hstale => hrefused (bank := byte e.activeBank.val) ?flags, fun hflags hx => hrefused (bank := x) ?bank,
      fun hflags hbank => hrefused (bank := byte e.activeBank.val) ?notAllowed, fun hflags hbank => ?written⟩
    case flags =>
      rw [hrun, hfresh, hstale]
      rfl
    case bank =>
      rw [hrun, hflags, bankOf_eq_none hx]
      rfl
    case notAllowed =>
      have hnone : (bankOf (byte e.activeBank.val)).filter ((afterFrame 13 s).cfg w).allowsBank = none := by
        rw [hown, bankOf_ofNat]
        exact Option.filter_eq_none_iff.2 fun k hk => by
          cases hk
          exact fun hallows => Bool.false_ne_true (hbank.symm.trans hallows)
      rw [hrun, hflags, hnone]
      rfl
    case written =>
      have hsome : (bankOf (byte e.activeBank.val)).filter ((afterFrame 13 s).cfg w).allowsBank = some e.activeBank := by
        rw [hown, bankOf_ofNat]
        exact Option.filter_eq_some_iff.2 ⟨rfl, hbank⟩
      have haccepted := hrun (byte e.activeBank.val)
      rw [hflags, hsome] at haccepted
      refine ⟨_, commandFrame_accepted harrives recordArgs_length haccepted, fun j => ?_, rfl⟩
      exact (dirGet_dirPut hdir).trans (if_congr eq_comm rfl rfl)

/-! ### SOFT_RESET (R170) -/

/-- The records of the listed fills outside BANKED windows are DAMAGED, and no other entry changes (R44). -/
theorem damageFills_spec (fs : List FillNo) (s : State) (h : dirWf s.directory) :
    damageFills fs s = { s with directory := (damageFills fs s).directory } ∧ dirWf (damageFills fs s).directory
      ∧ ∀ j, dirGet (damageFills fs s).directory j =
        if ∃ f ∈ fs, (s.cfg s.fills[f].window).mode ≠ .banked ∧ (s.cfg s.fills[f].window).dirIndex s.fills[f].record = j then
          { dirGet s.directory j with damaged := true }
        else dirGet s.directory j := by
  induction fs generalizing s with
  | nil => exact ⟨rfl, h, fun j => by simp [damageFills]⟩
  | cons f fs ih =>
    by_cases hmode : (s.cfg s.fills[f].window).mode = .banked
    · have hskip : damageFills (f :: fs) s = damageFills fs s := by simp only [damageFills, hmode, if_true]
      obtain ⟨hframe, hwf, hread⟩ := ih s h
      rw [hskip]
      refine ⟨hframe, hwf, fun j => (hread j).trans (if_congr ?_ rfl rfl)⟩
      simp [-Fin.getElem_fin, hmode]
    · let i := (s.cfg s.fills[f].window).dirIndex s.fills[f].record
      have hmark : damageFills (f :: fs) s = damageFills fs (markDamaged i s) := by
        simp only [damageFills, hmode, if_false, i]
      obtain ⟨hframe, hwf, hread⟩ := ih (markDamaged i s) (dirPut_wf h)
      rw [hmark]
      refine ⟨hframe.trans rfl, hwf, fun j => (hread j).trans ?_⟩
      rw [dirGet_markDamaged h]
      have hsame (v : WindowNo) : (markDamaged i s).cfg v = s.cfg v := rfl
      have hfills : (markDamaged i s).fills = s.fills := rfl
      simp only [hsame, hfills, List.mem_cons, exists_eq_or_imp, ne_eq, hmode, not_false_eq_true, true_and]
      by_cases hij : i = j
      · have hi : (s.cfg s.fills[f].window).dirIndex s.fills[f].record = j := hij
        subst hij
        simp [-Fin.getElem_fin, hi]
      · have hi : ¬ (s.cfg s.fills[f].window).dirIndex s.fills[f].record = j := hij
        simp [-Fin.getElem_fin, hij, hi]

/-- The bank a parked word is released to at a soft reset: its fill's target, else the lowest that is not active. -/
theorem resetBank_eq (s : State) (e : ParkEntry) :
    resetBank s e =
      if (s.cfg e.window).mode = .banked then
        ((e.fill.bind fun ref => s.fills[ref.index].target).orElse fun _ => otherBank s e.window e.record)
      else none := by
  unfold resetBank
  split
  · cases e.fill.bind fun ref => s.fills[ref.index].target <;> rfl
  · rfl

/-- Settles O54: soft reset's record of new fields, the marks of the records under fill, and the frame's answer. -/
theorem softResetOutcome : Obligations.SoftResetOutcome := by
  intro s harrives hdir bank
  let fs := tableAll (fun x : Fill => decide (x.state ≠ .free)) s.fills
  obtain ⟨hframe, -, hread⟩ := damageFills_spec fs (afterFrame 2 s) hdir
  have hexec := commandFrame_accepted (code := 0x5A) (args := []) (n := 0) (run := runSoftReset)
    (t := softReset (afterFrame 2 s)) harrives rfl rfl
  have hreqs := sameRequests_softReset (afterFrame 2 s)
  have htime := congrArg State.timeBase hframe
  have hissue := congrArg State.lastIssueLane hframe
  have hresponse := congrArg State.lastResponseLane hframe
  have hgrant := congrArg State.responseGrant hframe
  have hdelivered := congrArg State.delivered hframe
  have hlink := congrArg (fun u : State => { u.link with holder := some (acceptedResponse 0x5A []) }) hframe
  have hpark : (softReset (afterFrame 2 s)).park = s.park.map (ParkEntry.resetRelease s) := rfl
  refine ⟨_, hexec, fun w => getElem_tableMap _ _ w, fun i => getElem_replicate_fin _ i, fun f => getElem_tableMap _ _ f,
    fun k => getElem_replicate_fin _ k, rfl, ?park, ?inFlight, hreqs, rfl, rfl, rfl, rfl, rfl,
    fun w => getElem_replicate_fin _ w, ?directory, rfl, htime, hissue, hresponse, hgrant, hdelivered, hlink⟩
  case park =>
    change (softReset (afterFrame 2 s)).park = _
    rw [hpark]
    refine List.map_congr_left fun e _ => ?_
    unfold ParkEntry.resetRelease
    cases e.condition with
    | released a => rfl
    | parked =>
      exact congrArg (fun k : Option Bank => ({ e with
        fill := none, condition := .released (recordWord (s.cfg e.window) k e.record e.offset) } : ParkEntry)) (resetBank_eq s e)
  case inFlight =>
    refine List.map_congr_left fun x _ => ?_
    obtain ⟨req, origin⟩ := x
    cases origin with
    | copy k i w r m orphan => rfl
    | laneRead pos guard overlay => rfl
    | laneWrite pos guard => rfl
    | release fill window record dirIndex master offset => rfl
  case directory =>
    intro j
    refine (hread j).trans (if_congr ?_ rfl rfl)
    simp only [fs, mem_tableAll, decide_eq_true_eq]
    rfl

end Sys2Proof.Machine
end

section
/-! SUPPORT. What the due steps and the fates that need no grant can do, said once: every one of them is a chain of quiet
moves. A quiet move issues nothing, opens no hold and keeps every configured field. -/

namespace Sys2Proof.Machine

open Sys2Proof.Statements

/-! ### Quiet moves -/

/-- A hold entry goes on: it stands, is FREE, or is still of its master and record, in its state or BROKEN. -/
def Hold.GoesOn (h h' : Hold) : Prop :=
  h' = h ∨ h' = .cleared ∨ (h.state ≠ .free ∧ (h'.state = h.state ∨ h'.state = .broken) ∧ h'.master = h.master
    ∧ h'.window = h.window ∧ h'.record = h.record)

/-- A fill entry goes on: it stands, or only its coverage, countdown and flags change. -/
def Fill.GoesOn (x x' : Fill) : Prop :=
  x' = x ∨ (x.state ≠ .free ∧ x'.state = x.state ∧ x'.owner = x.owner ∧ x'.window = x.window ∧ x'.record = x.record
    ∧ x'.generation = x.generation ∧ x'.target = x.target ∧ x'.parked = x.parked)

/-- Hold entry i is in force: OPEN or COPYING. -/
def InForce (s : State) (i : HoldNo) : Prop := s.holds[i].state = .opened ∨ s.holds[i].state = .copying

/-- One quiet move. `d` is the assumption that no two holds are of one master and record (R46): what rests on it is said
under it, for the invariants that hold without it. -/
inductive Quiet (d : Prop) : State → State → Prop where
  /-- Nothing that an invariant speaks of changes, but that a lane may lose requests or take some up to its depth. -/
  | neutral {s t : State}
      (hlanes : ∀ m : Tag, t.lanes[m].reqs.length ≤ s.lanes[m].reqs.length ∨ t.lanes[m].reqs.length ≤ Config.laneDepth)
      (hrest : t = { t with
        inFlight := s.inFlight, windows := s.windows, directory := s.directory, holds := s.holds, fills := s.fills,
        park := s.park, events := s.events, alertLow := s.alertLow }) : Quiet d s t
  | reported (r : Report) (s : State) : Quiet d s (report r s)
  | alerted (s : State) : Quiet d s (driveAlert s)
  /-- No window leaves service and no configured field changes. -/
  | windows (s : State) (ws : Vector Window 16)
      (h : ∀ w : WindowNo, ws[w].cfg = s.windows[w].cfg ∧ (s.windows[w].decoded = true → ws[w].decoded = true)) :
      Quiet d s { s with windows := ws }
  /-- A window without a hold in force leaves service (R173). -/
  | windowOff (s : State) (w : WindowNo) (h : ∀ i : HoldNo, InForce s i → s.holds[i].window ≠ w) :
      Quiet d s (s.setWindow w { s.windows[w] with state := .off })
  | directory (s : State) (dir : List (Nat × DirEntry))
      (h : DirectoryOk s → DirectoryOk { s with directory := dir }) : Quiet d s { s with directory := dir }
  | holds (s : State) (hs : Vector Hold 32) (h : ∀ i : HoldNo, s.holds[i].GoesOn hs[i]) : Quiet d s { s with holds := hs }
  /-- An entry becomes COPYING, in a SNAP window in service; its master has no other entry for the record (R50, R53). -/
  | copying (s : State) (i : HoldNo) (h : Hold) (hstate : h.state = .copying)
      (hservice : s.windows[h.window].decoded = true) (hmode : (s.cfg h.window).mode = .snap)
      (hone : d → ∀ j : HoldNo, s.holds[j].isOf h.master h.window h.record = true → j = i) : Quiet d s (s.setHold i h)
  | fills (s : State) (fs : Vector Fill 16) (h : ∀ f : FillNo, s.fills[f].GoesOn fs[f]) : Quiet d s { s with fills := fs }
  /-- A fill without parked words becomes FREE and keeps its generation (R70). -/
  | fillFreed (s : State) (f : FillNo) (hopen : s.fills[f].state ≠ .free) (hparked : s.fills[f].parked = 0) :
      Quiet d s (s.setFill f (.cleared s.fills[f].generation))
  /-- A WAITING fill that nothing holds back becomes ACTIVE, and its words are RELEASED (R79, R101). -/
  | activated (s : State) (f : FillNo) (target : Option Bank) (hwaits : s.fills[f].state = .waiting)
      (hplace : fillPlace s s.fills[f].window s.fills[f].record s.fills[f].owner = some target) :
      Quiet d s { s with
        fills := s.fills.set f { s.fills[f] with
          state := .active, target := target, countdown := (s.cfg s.fills[f].window).fillLimit }
        park := s.park.map (ParkEntry.releaseFor (fillRef s f) (s.cfg s.fills[f].window) target) }
  /-- A fill opens WAITING, when its master has no OPEN hold on the record (R74). -/
  | fillOpened (s : State) (f : FillNo) (x : Fill) (hfree : s.fills[f].state = .free) (hstate : x.state = .waiting)
      (hparked : x.parked = 0)
      (hown : d → ∀ i : HoldNo, s.holds[i].isOpenOn x.window x.record = true → s.holds[i].master ≠ x.owner) :
      Quiet d s (s.setFill f x)
  /-- Words of a WAITING fill join the Park Queue, which has room for them (R99). -/
  | parked (s : State) (f : FillNo) (es : List ParkEntry) (hwaits : s.fills[f].state = .waiting)
      (hroom : s.park.length + es.length ≤ Config.parkCapacity)
      (hentries : ∀ e ∈ es, e.fill = some (fillRef s f) ∧ e.window = s.fills[f].window ∧ e.record = s.fills[f].record
        ∧ e.master = s.fills[f].owner ∧ e.condition = .parked) :
      Quiet d s { s with
        fills := s.fills.set f { s.fills[f] with parked := s.fills[f].parked + es.length }
        park := s.park ++ es }

/-- A chain of quiet moves. -/
abbrev Quiets (d : Prop) : State → State → Prop := Relation.ReflTransGen (Quiet d)

section
variable {d : Prop} {s t u : State}

theorem Quiet.one (h : Quiet d s t) : Quiets d s t := .single h

/-- An operation that keeps every request and touches nothing an invariant speaks of. -/
theorem quiets_neutral (hlanes : SameRequests s t)
    (hrest : t = { t with
      inFlight := s.inFlight, windows := s.windows, directory := s.directory, holds := s.holds, fills := s.fills,
      park := s.park, events := s.events, alertLow := s.alertLow }) : Quiets d s t :=
  (Quiet.neutral (fun m => .inl (by rw [hlanes m])) hrest).one

theorem quiets_report (r : Report) (s : State) : Quiets d s (report r s) := (Quiet.reported r s).one

theorem quiets_count (n : CounterName) (w : WindowNo) (s : State) : Quiets d s (count n w s) :=
  quiets_neutral (fun _ => rfl) rfl

theorem quiets_countTimes (n : CounterName) (w : WindowNo) (k : Nat) (s : State) : Quiets d s (countTimes n w k s) := by
  refine quiets_neutral (.of_lanes ?_) ?_ <;> rw [countTimes_writes]

theorem quiets_reofferWhen (p : Stall → Bool) (s : State) : Quiets d s (reofferWhen p s) :=
  quiets_neutral (sameRequests_reofferWhen p s) rfl

theorem quiets_recut (old : Vector Window 16) (s : State) : Quiets d s (recut old s) :=
  quiets_neutral (sameRequests_recut old s) rfl

theorem quiets_setPhase (m : Tag) (ph : HeadPhase) (s : State) : Quiets d s (setPhase m ph s) :=
  quiets_neutral (sameRequests_setPhase m ph s) rfl

theorem quiets_setSlot (k : SlotNo) (x : Slot) (s : State) : Quiets d s (s.setSlot k x) := quiets_neutral (fun _ => rfl) rfl

theorem quiets_drawn (s : State) : Quiets d s s.drawn := quiets_neutral (fun _ => rfl) rfl

theorem quiets_releaseSlot (k : Option SlotNo) (s : State) : Quiets d s (releaseSlot k s) := by
  cases k with
  | none => exact .refl
  | some k => exact quiets_setSlot k .free s

/-! ### Lanes -/

/-- Refusing what wraps loses no request. -/
theorem refuseWraps_length (qs : List Request) : (refuseWraps qs).1.length = qs.length := by
  induction qs with
  | nil => rfl
  | cons q qs ih =>
    simp only [refuseWraps]
    split
    · simp [ih]
    · split <;> simp [ih]

theorem advance_length (l : Lane) : l.advance.reqs.length = l.reqs.length := refuseWraps_length l.reqs

theorem onHead_length (f : Request → Request) (qs : List Request) : (onHead f qs).length = qs.length := by
  induction qs with
  | nil => rfl
  | cons q qs ih =>
    simp only [onHead]
    split <;> simp [ih]

/-- The lanes after words have been taken. -/
theorem takeWords_lanes (m : Tag) (fates : List WordState) (s : State) :
    (takeWords m fates s).lanes =
      s.lanes.set m (Lane.advance { s.lanes[m] with reqs := onHead (fun q => q.take fates) s.lanes[m].reqs }) := by
  simp only [takeWords]
  rw [grantResponse_writes]
  rfl

/-- The lanes after beats or an outcome have been placed. -/
theorem placeWords_lanes (p : LanePos) (fate : List WordState → List WordState) (s : State) :
    (placeWords p fate s).lanes =
      s.lanes.set p.lane { s.lanes[p.lane] with reqs := s.lanes[p.lane].reqs.map (placeIn p fate) } := by
  simp only [placeWords]
  rw [grantResponse_writes]
  rfl

/-- A change of one lane that keeps the number of its requests. -/
theorem length_set_lane {m : Tag} {l : Lane} (h : l.reqs.length = s.lanes[m].reqs.length) (n : Tag) :
    (s.lanes.set m l)[n].reqs.length ≤ s.lanes[n].reqs.length := by
  rw [getElem_set_fin]
  split
  next hmn => subst hmn; exact h.le
  next => exact le_rfl

theorem quiets_takeWords (m : Tag) (fates : List WordState) (s : State) : Quiets d s (takeWords m fates s) := by
  refine (Quiet.neutral (fun n => .inl ?_) (by rw [takeWords_writes])).one
  rw [takeWords_lanes]
  exact length_set_lane (by rw [advance_length]; exact onHead_length _ _) n

theorem quiets_placeWords (p : LanePos) (fate : List WordState → List WordState) (s : State) :
    Quiets d s (placeWords p fate s) := by
  refine (Quiet.neutral (fun n => .inl ?_) (by rw [placeWords_writes])).one
  rw [placeWords_lanes]
  exact length_set_lane (List.length_map _) n

theorem quiets_takeBound (m : Tag) (fates : Nat → List WordState) (s : State) : Quiets d s (takeBound m fates s) := by
  unfold takeBound
  split
  · exact quiets_takeWords m _ s
  all_goals exact .refl

/-! ### One entry of a table -/

/-- One hold entry goes on. -/
theorem quiets_setHold {i : HoldNo} {h : Hold} (hon : s.holds[i].GoesOn h) : Quiets d s (s.setHold i h) := by
  refine (Quiet.holds s (s.holds.set i h) fun j => ?_).one
  rw [getElem_set_fin]
  split
  next hij => subst hij; exact hon
  next => exact .inl rfl

/-- An entry becomes FREE. -/
theorem quiets_clearHold (i : HoldNo) (s : State) : Quiets d s (s.setHold i .cleared) := quiets_setHold (.inr (.inl rfl))

/-- One fill entry goes on. -/
theorem quiets_setFill {f : FillNo} {x : Fill} (hon : s.fills[f].GoesOn x) : Quiets d s (s.setFill f x) := by
  refine (Quiet.fills s (s.fills.set f x) fun g => ?_).one
  rw [getElem_set_fin]
  split
  next hfg => subst hfg; exact hon
  next => exact .inl rfl

/-! ### Directory -/

/-- An entry read from a directory whose flags are apart has its flags apart. -/
theorem flagsApart_dirGet (h : FlagsApart s) (i : Nat) :
    ((dirGet s.directory i).fresh && (dirGet s.directory i).stale) = false := by
  have hlist : ∀ l : List (Nat × DirEntry), (∀ p ∈ l, (p.2.fresh && p.2.stale) = false) →
      ((dirGet l i).fresh && (dirGet l i).stale) = false := by
    intro l hl
    induction l with
    | nil => rfl
    | cons p rest ih =>
      simp only [dirGet]
      split
      · exact hl p (.head _)
      · exact ih fun q hq => hl q (.tail _ hq)
  exact hlist _ h

/-- An entry with its flags apart is put. -/
theorem quiets_setDir (i : Nat) (e : DirEntry) (h : FlagsApart s → (e.fresh && e.stale) = false) :
    Quiets d s (s.setDir i e) := by
  refine (Quiet.directory s _ fun hok => ?_).one
  obtain ⟨hwf, hapart⟩ := hok
  refine ⟨dirPut_wf hwf, fun p hp => ?_⟩
  obtain rfl | hold := mem_dirPut hp
  · exact h hapart
  · exact hapart p hold

theorem quiets_markDamaged (i : Nat) (s : State) : Quiets d s (markDamaged i s) :=
  quiets_setDir i _ fun h => flagsApart_dirGet h i

/-! ### The Fill Engine -/

theorem quiets_activateFill {f : FillNo} {target : Option Bank} (hwaits : s.fills[f].state = .waiting)
    (hplace : fillPlace s s.fills[f].window s.fills[f].record s.fills[f].owner = some target) :
    Quiets d s (activateFill f target s) :=
  (Quiet.activated s f target hwaits hplace).one.trans (quiets_reofferWhen _ _)

/-- The fill found open on a record is open, and of that record. -/
theorem openFill_spec {w : WindowNo} {r : Nat} {f : FillNo} (h : openFill s w r = some f) :
    s.fills[f].state ≠ .free ∧ s.fills[f].window = w ∧ s.fills[f].record = r := by
  have hfound := tableFind_holds h
  simpa only [Fill.isOpenOn, Bool.and_eq_true, decide_eq_true_eq, and_assoc] using hfound

theorem quiets_tryActivate (w : WindowNo) (r : Nat) (s : State) : Quiets d s (tryActivate w r s) := by
  unfold tryActivate
  split
  next => exact .refl
  next f hopen =>
    obtain ⟨-, hw, hr⟩ := openFill_spec hopen
    split
    next hwaits =>
      split
      next => exact .refl
      next target hplace => exact quiets_activateFill hwaits (by rw [hw, hr]; exact hplace)
    next => exact .refl

theorem quiets_freeFillEntry {f : FillNo} (hopen : s.fills[f].state ≠ .free) (hparked : s.fills[f].parked = 0) :
    Quiets d s (freeFillEntry f s) :=
  (Quiet.fillFreed s f hopen hparked).one.trans (quiets_reofferWhen _ _)

theorem quiets_publish {f : FillNo} (hopen : s.fills[f].state ≠ .free) (hparked : s.fills[f].parked = 0) :
    Quiets d s (publish f s) := by
  let i := (s.cfg s.fills[f].window).dirIndex s.fills[f].record
  have hentry : Quiets d s (s.setDir i (publishedEntry s.timeBase.value s.fills[f] (dirGet s.directory i))) :=
    quiets_setDir i _ fun _ => rfl
  refine hentry.trans (.trans ?_ ((quiets_count _ _ _).trans (quiets_report _ _)))
  exact quiets_freeFillEntry (s := s.setDir i _) hopen hparked

theorem quiets_abandonFill {f : FillNo} (hopen : s.fills[f].state ≠ .free) : Quiets d s (abandonFill f s) := by
  let x := s.fills[f]
  let s1 := s.setFill f { x with abandoned := true }
  let s2 := if (s.cfg x.window).mode = .banked then s1 else markDamaged ((s.cfg x.window).dirIndex x.record) s1
  let s3 := count .fillsAbandoned x.window (report (.of .fillAbandoned x.window x.record x.owner) s2)
  have h1 : Quiets d s s1 := quiets_setFill (.inr ⟨hopen, rfl, rfl, rfl, rfl, rfl, rfl, rfl⟩)
  have h2 : Quiets d s1 s2 := by
    simp only [s2]
    split
    · exact .refl
    · exact quiets_markDamaged _ _
  have h3 : Quiets d s s3 := h1.trans (h2.trans ((quiets_report _ _).trans (quiets_count _ _ _)))
  have hfill : s3.fills[f] = { x with abandoned := true } := by
    have hfills : s3.fills = s1.fills := by
      simp only [s3, s2, count]
      rw [report_writes]
      split <;> rfl
    rw [hfills]
    exact getElem_set_same _ _ _
  change Quiets d s (if x.parked = 0 then freeFillEntry f s3 else s3)
  split
  next hparked =>
    refine h3.trans (quiets_freeFillEntry ?_ ?_) <;> rw [hfill]
    · exact hopen
    · exact hparked
  next => exact h3

theorem quiets_fillIssued (f : FillNo) (s : State) : Quiets d s (fillIssued f s) := by
  simp only [fillIssued]
  split
  next hactive =>
    obtain ⟨hstate, hparked⟩ := hactive
    have hopen : s.fills[f].state ≠ .free := by rw [hstate]; decide
    split
    · exact quiets_freeFillEntry hopen hparked
    · split
      · exact quiets_publish hopen hparked
      · exact .refl
  next => exact .refl

theorem quiets_countCoverage {f : FillNo} (hopen : s.fills[f].state ≠ .free) (a : Nat) (ws : List WriteWord) :
    Quiets d s (countCoverage f a ws s) :=
  quiets_setFill (.inr ⟨hopen, rfl, rfl, rfl, rfl, rfl, rfl, rfl⟩)

theorem quiets_fillWriteFaulted (i : Nat) (ref : Option FillRef) (s : State) : Quiets d s (fillWriteFaulted i ref s) := by
  cases ref with
  | none => exact quiets_markDamaged i s
  | some f =>
    simp only [fillWriteFaulted]
    split
    next hrefers =>
      have hopen : (markDamaged i s).fills[f.index].state ≠ .free := by
        simp only [refersTo, Bool.and_eq_true, decide_eq_true_eq] at hrefers
        exact hrefers.1
      exact (quiets_markDamaged i s).trans (quiets_setFill (.inr ⟨hopen, rfl, rfl, rfl, rfl, rfl, rfl, rfl⟩))
    next => exact quiets_markDamaged i s

/-- The entries made of a segment's words are PARKED, of its fill, record and master, and one a word. -/
theorem parkEntries_spec (ref : FillRef) (m : Tag) (g : GuardSpan) (k j : Nat) (ws : List WriteWord) :
    (parkEntries ref m g k j ws).length = ws.length
      ∧ ∀ e ∈ parkEntries ref m g k j ws, e.fill = some ref ∧ e.window = g.window ∧ e.record = g.record ∧ e.master = m
        ∧ e.condition = .parked := by
  induction ws generalizing j with
  | nil => simp [parkEntries]
  | cons x xs ih =>
    obtain ⟨hlength, hentries⟩ := ih (j + 1)
    refine ⟨by simp [parkEntries, hlength], fun e he => ?_⟩
    obtain rfl | he := List.mem_cons.1 he
    · exact ⟨rfl, rfl, rfl, rfl, rfl⟩
    · exact hentries e he

theorem quiets_parkWords {f : FillNo} {m : Tag} {g : GuardSpan} {ws : List WriteWord}
    (hwaits : s.fills[f].state = .waiting) (howner : s.fills[f].owner = m) (hw : s.fills[f].window = g.window)
    (hr : s.fills[f].record = g.record) (hroom : s.park.length + ws.length ≤ Config.parkCapacity) :
    Quiets d s (parkWords f m g ws s) := by
  have hopen : s.fills[f].state ≠ .free := by rw [hwaits]; decide
  let s1 := countCoverage f g.offset ws s
  have hfill : s1.fills[f] = { s.fills[f] with coverage := s.fills[f].coverage ||| fullWrites g.offset ws } :=
    getElem_set_same _ _ _
  let es := parkEntries (fillRef s f) m g ((s.cfg g.window).dirIndex g.record) g.offset ws
  obtain ⟨hlength, hentries⟩ := parkEntries_spec (fillRef s f) m g ((s.cfg g.window).dirIndex g.record) g.offset ws
  have hparked : Quiet d s1 { s1 with
      fills := s1.fills.set f { s1.fills[f] with parked := s1.fills[f].parked + es.length }, park := s1.park ++ es } := by
    refine Quiet.parked s1 f es (by rw [hfill]; exact hwaits) (by rw [hlength]; exact hroom) fun e he => ?_
    obtain ⟨hfillref, hwindow, hrecord, hmaster, hcondition⟩ := hentries e he
    have href : fillRef s1 f = fillRef s f := by simp only [fillRef, hfill]
    rw [href, hfill]
    exact ⟨hfillref, hwindow.trans hw.symm, hrecord.trans hr.symm, hmaster.trans howner.symm, hcondition⟩
  refine (quiets_countCoverage hopen g.offset ws).trans (hparked.one.trans ?_)
  simp only [es, hlength]
  exact quiets_countTimes _ _ _ _

/-! ### The Hold Unit -/

theorem quiets_leftOpen (w : WindowNo) (r : Nat) (s : State) : Quiets d s (leftOpen w r s) :=
  (quiets_reofferWhen _ _).trans (quiets_tryActivate w r _)

theorem quiets_copyMoved (w : WindowNo) (r : Nat) (s : State) : Quiets d s (copyMoved w r s) := quiets_reofferWhen _ _

theorem quiets_closeHold (i : HoldNo) (s : State) : Quiets d s (closeHold i s) :=
  (quiets_releaseSlot _ _).trans ((quiets_clearHold i _).trans (quiets_leftOpen _ _ _))

theorem quiets_surrender (m : Tag) (w : WindowNo) (r : Nat) (s : State) : Quiets d s (surrender m w r s) := by
  unfold surrender
  split
  · exact .refl
  · split
    · exact quiets_closeHold _ s
    · split
      · exact quiets_clearHold _ s
      · exact .refl
    · exact .refl
    · exact .refl

theorem quiets_coverHold {i : HoldNo} (hheld : s.holds[i].state ≠ .free) (a n : Nat) : Quiets d s (coverHold i a n s) := by
  have hcover : Quiets d s (s.setHold i { s.holds[i] with coverage := s.holds[i].coverage ||| offsetSet a n }) :=
    quiets_setHold (.inr (.inr ⟨hheld, .inl rfl, rfl, rfl, rfl⟩))
  simp only [coverHold]
  split
  · split
    · exact hcover.trans (quiets_closeHold i _)
    · exact hcover.trans (quiets_clearHold i _)
    · exact hcover
    · exact hcover
  · exact hcover

theorem quiets_breakReport (reason : BreakReason) (h : Hold) (s : State) : Quiets d s (breakReport reason h s) := by
  cases reason with
  | expired => exact quiets_report _ s
  | yielded => exact quiets_report _ s
  | drain => exact .refl
  | management => exact .refl

theorem quiets_breakEntry (reason : BreakReason) (i : HoldNo) (s : State) : Quiets d s (breakEntry reason i s) := by
  simp only [breakEntry]
  split
  next hopen =>
    have hheld : (releaseSlot s.holds[i].slot s).holds = s.holds := by rw [releaseSlot_writes]
    refine (quiets_releaseSlot s.holds[i].slot s).trans (.trans (quiets_setHold ?_)
      ((quiets_count _ _ _).trans (quiets_breakReport _ _ _)))
    rw [hheld]
    exact .inr (.inr ⟨by rw [hopen]; decide, .inr rfl, rfl, rfl, rfl⟩)
  next hcopying =>
    have hheld : s.holds[i].state ≠ .free := by rw [hcopying]; decide
    refine .trans ?_ (quiets_count _ _ _)
    exact quiets_setHold (.inr (.inr ⟨hheld, .inr rfl, rfl, rfl, rfl⟩))
  next => exact .refl
  next => exact .refl

theorem quiets_afterBreak (h : Hold) (s : State) : Quiets d s (afterBreak h s) := by
  unfold afterBreak
  split
  · exact quiets_leftOpen _ _ s
  · exact quiets_copyMoved _ _ s
  · exact .refl
  · exact .refl

theorem quiets_breakHold (reason : BreakReason) (i : HoldNo) (s : State) : Quiets d s (breakHold reason i s) :=
  (quiets_breakEntry reason i s).trans (quiets_afterBreak _ _)

theorem quiets_breakAll (reason : BreakReason) (is : List HoldNo) (s : State) : Quiets d s (breakAll reason is s) := by
  induction is generalizing s with
  | nil => exact .refl
  | cons i is ih => exact (quiets_breakHold reason i s).trans (ih _)

/-! ### Drains -/

/-- An entry goes on when its window leaves service. -/
theorem leaveService_goesOn (w : WindowNo) (h : Hold) : h.GoesOn (h.leaveService w) := by
  unfold Hold.leaveService
  split
  · split
    next hbroken =>
      split
      · exact .inr (.inl rfl)
      · exact .inr (.inr ⟨by rw [hbroken]; decide, .inl rfl, rfl, rfl, rfl⟩)
    all_goals exact .inl rfl
  · exact .inl rfl

/-- A hold is in force in a window exactly when it is listed. -/
theorem mem_holdsInForce {w : WindowNo} {i : HoldNo} : i ∈ holdsInForce s w ↔ InForce s i ∧ s.holds[i].window = w := by
  simp only [holdsInForce, mem_tableAll, Bool.and_eq_true, Bool.or_eq_true, decide_eq_true_eq, InForce]

theorem quiets_completeDrain {w : WindowNo} (h : holdsInForce s w = []) : Quiets d s (completeDrain w s) := by
  refine .trans (Quiet.windowOff s w fun i hi hw => ?_).one ?_
  · have hmem : i ∈ holdsInForce s w := mem_holdsInForce.2 ⟨hi, hw⟩
    rw [h] at hmem
    cases hmem
  · let s1 := s.setWindow w { s.windows[w] with state := .off }
    refine .trans (Quiet.holds s1 (tableMap (fun _ h => h.leaveService w) s1.holds) fun i => ?_).one ?_
    · rw [getElem_tableMap]
      exact leaveService_goesOn w _
    · refine .trans (b := cancelSweep w { s1 with holds := tableMap (fun _ h => h.leaveService w) s1.holds })
        (quiets_neutral (fun _ => rfl) rfl) ?_
      exact (quiets_report _ _).trans (quiets_recut _ _)

theorem quiets_drainTest (w : WindowNo) (s : State) : Quiets d s (drainTest w s) := by
  unfold drainTest
  split
  next htest =>
    obtain ⟨-, hcomplete⟩ := Bool.and_eq_true_iff.1 htest
    obtain ⟨hholds, -, -⟩ := (windowComplete_iff s w).1 hcomplete
    exact quiets_completeDrain hholds
  next => exact .refl

theorem quiets_breakForDrain (is : List HoldNo) (s : State) : Quiets d s (breakForDrain is s) := by
  induction is generalizing s with
  | nil => exact .refl
  | cons i is ih => exact (quiets_breakEntry .drain i s).trans (ih _)

theorem quiets_activateFills (fs : List FillNo) (s : State) : Quiets d s (activateFills fs s) := by
  induction fs generalizing s with
  | nil => exact .refl
  | cons f fs ih => exact (quiets_tryActivate _ _ s).trans (ih _)

theorem quiets_abandonIncomplete (fs : List FillNo) (s : State) : Quiets d s (abandonIncomplete fs s) := by
  induction fs generalizing s with
  | nil => exact .refl
  | cons f fs ih =>
    simp only [abandonIncomplete]
    refine .trans ?_ (ih _)
    split
    next hopen => exact quiets_abandonFill hopen.1
    next => exact .refl

/-- One window's state changes, without leaving service. -/
theorem quiets_setWindow {w : WindowNo} {x : Window} (hcfg : x.cfg = s.windows[w].cfg)
    (hdecoded : s.windows[w].decoded = true → x.decoded = true) : Quiets d s (s.setWindow w x) := by
  refine (Quiet.windows s _ fun v => ?_).one
  rw [getElem_set_fin]
  split
  next hwv => subst hwv; exact ⟨hcfg, hdecoded⟩
  next => exact ⟨rfl, id⟩

/-- Forcing keeps the configured fields and the service of a window. -/
theorem force_spec (x : Window) : x.force.cfg = x.cfg ∧ x.force.decoded = x.decoded := by
  unfold Window.force
  split
  next hstate => exact ⟨rfl, by simp only [Window.decoded, hstate]⟩
  next => exact ⟨rfl, rfl⟩
  next => exact ⟨rfl, rfl⟩

theorem quiets_forceDrain (w : WindowNo) (s : State) : Quiets d s (forceDrain w s) := by
  obtain ⟨hcfg, hdecoded⟩ := force_spec s.windows[w]
  refine .trans (quiets_setWindow (x := s.windows[w].force) hcfg fun h => hdecoded.trans h) ?_
  refine .trans (quiets_drawn _) ?_
  refine .trans (quiets_breakForDrain (holdsInForce s w) _) ?_
  refine .trans (quiets_reofferWhen (Stall.touchedByDrain w) _) ?_
  refine .trans (quiets_activateFills (fillsOf s w) _) ?_
  refine .trans (quiets_abandonIncomplete (freeOrder s.freeCount (fillsOf s w)) _) ?_
  exact .trans (quiets_report _ _) (quiets_drainTest w _)

/-! ### What runs out, and sweeps -/

theorem quiets_expireHold (i : HoldNo) (s : State) : Quiets d s (expireHold i s) := by
  unfold expireHold
  split
  · exact (quiets_breakHold .expired i s).trans (quiets_drainTest _ _)
  · exact .refl

theorem quiets_expireLinger (i : HoldNo) (s : State) : Quiets d s (expireLinger i s) := by
  unfold expireLinger
  split
  · exact quiets_clearHold i s
  · exact .refl

/-- A fill that has run out is ACTIVE. -/
theorem fillRanOut_active {f : FillNo} (h : fillRanOut s f = true) : s.fills[f].state = .active := by
  simp only [fillRanOut, Bool.and_eq_true, decide_eq_true_eq] at h
  exact h.1.1.1

theorem quiets_expireFill (f : FillNo) (s : State) : Quiets d s (expireFill f s) := by
  unfold expireFill
  split
  next hout =>
    have hopen : s.fills[f].state ≠ .free := by rw [fillRanOut_active hout]; decide
    exact (quiets_abandonFill hopen).trans (quiets_drainTest _ _)
  next => exact .refl

theorem quiets_expireDrain (w : WindowNo) (s : State) : Quiets d s (expireDrain w s) := by
  unfold expireDrain
  split
  · exact quiets_forceDrain w s
  · exact .refl

theorem quiets_startSweep (s : State) : Quiets d s (startSweep s) := by
  refine quiets_neutral (.of_lanes ?_) ?_ <;> rw [startSweep_writes]

/-- The flags after a visit are apart (R41). -/
theorem visitedEntry_apart (e : DirEntry) : ((visitedEntry e).fresh && (visitedEntry e).stale) = false := by
  unfold visitedEntry
  split
  next => exact Bool.false_and _
  next hfresh => simp [hfresh]

theorem quiets_endSweep (x : Sweep) (s : State) : Quiets d s (endSweep x s) := by
  have hended : Quiets d s { s with sweep := none } := quiets_neutral (fun _ => rfl) rfl
  unfold endSweep
  split
  · dsimp only
    split
    · exact hended.trans (quiets_report _ _)
    · exact hended
  · exact quiets_neutral (fun _ => rfl) rfl

theorem quiets_visitSweep (s : State) : Quiets d s (visitSweep s) := by
  simp only [visitSweep]
  split
  next => exact .refl
  next x _ =>
    let i := (s.cfg x.window).dirIndex x.next
    have hvisited : Quiets d s (s.setDir i (visitedEntry (dirGet s.directory i))) :=
      quiets_setDir i _ fun _ => visitedEntry_apart _
    exact hvisited.trans (quiets_endSweep _ _)

end

end Sys2Proof.Machine
end

section
/-! SUPPORT. What the owner of a segment decides, read back (R13, R14): what each decision says of the state it was taken
in. With it, every fate that needs no grant and every due step is a chain of quiet moves. -/

namespace Sys2Proof.Machine

open Sys2Proof.Statements

/-! ### Segments and their windows -/

/-- A guard word is of a window in service. -/
theorem classify_faceGuard {ws : Vector Window 16} {a : Nat} {w : WindowNo} {r : Nat}
    (h : classify ws a = .faceGuard w r) : ws[w].decoded = true := by
  unfold classify at h
  cases hfound : (List.finRange 16).findSome? fun v => classifyIn v ws[v] a with
  | none =>
    rw [hfound, Option.getD_none] at h
    cases h
  | some c =>
    rw [hfound, Option.getD_some] at h
    subst h
    obtain ⟨v, -, hv⟩ := List.exists_of_findSome?_eq_some hfound
    unfold classifyIn at hv
    split at hv
    next hdecoded =>
      dsimp only at hv
      split at hv
      · split at hv
        · cases hv
          exact hdecoded
        · cases hv
      · obtain ⟨k, -, hk⟩ := Option.map_eq_some_iff.1 hv
        cases hk
    next => cases hv

/-- The head segment is the first untaken one of the lane's head, cut against the windows of this moment. -/
theorem headSegment_eq_some {s : State} {m : Tag} {q : Request} {g : Segment} (h : headSegment s m = some (q, g)) :
    s.lanes[m].head = some q ∧ firstSegment s.windows q = some g := by
  unfold headSegment at h
  split at h
  next => cases h
  next q' hq =>
    obtain ⟨g', hg, heq⟩ := Option.map_eq_some_iff.1 h
    cases heq
    exact ⟨hq, hg⟩

/-- A head segment of guard words is of a window in service. -/
theorem headSegment_decoded {s : State} {m : Tag} {q : Request} {g : Segment} {w : WindowNo} {r : Nat}
    (h : headSegment s m = some (q, g)) (hcls : g.cls = .faceGuard w r) : s.windows[w].decoded = true := by
  obtain ⟨-, hfirst⟩ := headSegment_eq_some h
  simp only [firstSegment] at hfirst
  split at hfirst
  · cases hfirst
    exact classify_faceGuard hcls
  · cases hfirst

/-- The span of a segment of guard words names their record and is as long as the segment. -/
theorem segmentSpan_faceGuard {s : State} {q : Request} {g : Segment} {w : WindowNo} {r : Nat}
    (h : g.cls = .faceGuard w r) : segmentSpan s q g = guardSpan (s.cfg w) w r q g := by
  simp only [segmentSpan, h]

/-- A segment has no more write words than words. -/
theorem requestWords_length_le (q : Request) (g : Segment) : (requestWords q g).length ≤ g.length := by
  unfold requestWords
  split
  · exact Nat.zero_le _
  · exact List.length_take_le _ _

/-! ### What a decision says of the state -/

/-- The entry found for a master and a record is non-FREE and of both. -/
theorem findHold_spec {s : State} {m : Tag} {w : WindowNo} {r : Nat} {i : HoldNo} (h : findHold s m w r = some i) :
    s.holds[i].isOf m w r = true := tableFind_holds h

theorem isOf_iff (m : Tag) (w : WindowNo) (r : Nat) (h : Hold) :
    h.isOf m w r = true ↔ h.state ≠ .free ∧ h.master = m ∧ h.window = w ∧ h.record = r := by
  simp only [Hold.isOf, Bool.and_eq_true, decide_eq_true_eq, and_assoc]

theorem isOpenOn_iff (w : WindowNo) (r : Nat) (h : Hold) :
    h.isOpenOn w r = true ↔ h.state = .opened ∧ h.window = w ∧ h.record = r := by
  simp only [Hold.isOpenOn, Bool.and_eq_true, decide_eq_true_eq, and_assoc]

/-- The plan of a fill that opens ACTIVE: it takes a FREE entry of a record without an open fill; in SINGLE every OPEN hold
of another master yields, if one is left once the master's own is given up (R94, R95). -/
def OpensFill (s : State) (m : Tag) (sp : GuardSpan) (f : FillNo) (yields : List HoldNo) : Prop :=
  freeFill s = some f ∧ openFill s sp.window sp.record = none
    ∧ ((s.cfg sp.window).mode = .single →
      ∀ i ∈ otherOpenHolds (surrender m sp.window sp.record s) sp.window sp.record m, i ∈ yields)

/-- What a way of issue says of the state it was decided in. -/
def IssueKind.SaysOf (s : State) (m : Tag) (sp : GuardSpan) : IssueKind → Prop
  | .continuation i => s.holds[i].state = .opened
  | .opening i => s.windows[sp.window].decoded = true ∧ chooseEntry s m sp.window sp.record = some i
  | .brokenContinuation i => s.holds[i].state = .broken
  | .fillWrite f => openFill s sp.window sp.record = some f ∧ s.fills[f].owner = m ∧ s.fills[f].state = .active
  | .fillOpening f _ yields => OpensFill s m sp f yields
  | .plain | .ownView _ | .denied _ | .wholeRecord | .unguarded => True

/-- What a decision says of the state it was taken in. -/
def Decision.SaysOf (s : State) (m : Tag) (sp : GuardSpan) : Decision → Prop
  | .issue how => how.SaysOf s m sp
  | .serve i => s.holds[i].state = .opened
  | .bind i _ => s.windows[sp.window].decoded = true ∧ (s.cfg sp.window).mode = .snap
      ∧ chooseEntry s m sp.window sp.record = some i
  | .park f => openFill s sp.window sp.record = some f ∧ s.fills[f].owner = m ∧ s.fills[f].state = .waiting
      ∧ parkHasRoom s sp.length = true
  | .parkOpening f => freeFill s = some f ∧ parkHasRoom s sp.length = true
  | .refuse _ | .stall _ | .stallFillTable | .stallParkRoom => True

section
variable {s : State} {m : Tag} {sp : GuardSpan}

theorem decideOpening_saysOf (hservice : s.windows[sp.window].decoded = true) :
    (decideOpening s m sp).SaysOf s m sp := by
  simp only [decideOpening]
  split
  · trivial
  · split
    · trivial
    next i hi =>
      split
      next hmode =>
        split
        · trivial
        · exact ⟨hservice, hmode, hi⟩
      next => exact ⟨hservice, hi⟩

theorem decideCandidate_saysOf (hservice : s.windows[sp.window].decoded = true) :
    (decideCandidate s m sp).SaysOf s m sp := by
  simp only [decideCandidate]
  repeat' split
  · trivial
  · trivial
  · trivial
  · exact decideOpening_saysOf hservice

theorem decideRead_saysOf (hservice : s.windows[sp.window].decoded = true) : (decideRead s m sp).SaysOf s m sp := by
  simp only [decideRead]
  split
  · trivial
  · split
    · split
      · exact decideCandidate_saysOf hservice
      · trivial
    · split
      next hopen =>
        split
        · exact hopen
        · exact hopen
      next => trivial
      next hbroken =>
        split
        · exact decideCandidate_saysOf hservice
        · exact hbroken
      next => trivial

theorem decideFillOpening_saysOf {f : FillNo} (hfree : freeFill s = some f)
    (hnone : openFill s sp.window sp.record = none) : (decideFillOpening s m sp f).SaysOf s m sp := by
  have hwaits : (if parkHasRoom s sp.length = true then Decision.parkOpening f else .stallParkRoom).SaysOf s m sp := by
    split
    next hroom => exact ⟨hfree, hroom⟩
    next => trivial
  have hcfg : (surrender m sp.window sp.record s).cfg = s.cfg := by
    funext v
    rw [surrender_writes]
    rfl
  simp only [decideFillOpening]
  split
  next target hplace =>
    refine ⟨hfree, hnone, fun hsingle i hi => ?_⟩
    simp only [fillPlace, hcfg, hsingle] at hplace
    split at hplace
    next hempty => rw [List.isEmpty_iff.1 hempty] at hi; exact hi
    next => cases hplace
  next =>
    split
    · exact hwaits
    · split
      next => exact ⟨hfree, hnone, fun _ i hi => hi⟩
      next hbanked =>
        split
        · exact ⟨hfree, hnone, fun hsingle => by rw [hbanked] at hsingle; cases hsingle⟩
        · exact hwaits
      next => exact hwaits

theorem decideWrite_saysOf : (decideWrite s m sp).SaysOf s m sp := by
  simp only [decideWrite]
  split
  · split
    next f hopen =>
      obtain ⟨hnotFree, -, -⟩ := openFill_spec hopen
      split
      · trivial
      next howner =>
        have howner : s.fills[f].owner = m := not_not.1 howner
        split
        · trivial
        · split
          next hwaiting =>
            split
            next hroom => exact ⟨hopen, howner, hwaiting, hroom⟩
            next => trivial
          next hnotWaiting =>
            refine ⟨hopen, howner, ?_⟩
            cases hstate : s.fills[f].state with
            | free => exact absurd hstate hnotFree
            | waiting => exact absurd hstate hnotWaiting
            | active => rfl
    next hnone =>
      split
      · trivial
      · split
        · trivial
        · split
          · trivial
          next f hfree => exact decideFillOpening_saysOf hfree hnone
  · trivial

end

/-- What the decision for a head segment says of the state. -/
theorem decideSegment_saysOf {s : State} {m : Tag} {q : Request} {g : Segment} (h : headSegment s m = some (q, g)) :
    (decideSegment s m q g).SaysOf s m (segmentSpan s q g) := by
  unfold decideSegment
  split
  · trivial
  · trivial
  · unfold decideBankRange
    dsimp only
    split <;> trivial
  next w r hcls =>
    have hservice := headSegment_decoded h hcls
    rw [segmentSpan_faceGuard hcls]
    split
    · exact decideRead_saysOf (sp := guardSpan (s.cfg w) w r q g) hservice
    · exact decideWrite_saysOf

/-- The span of a segment is no longer than the segment; one of no guard words has length 0. -/
theorem parkHasRoom_words {s : State} {m : Tag} {q : Request} {g : Segment} {f : FillNo}
    (hd : decideSegment s m q g = .park f ∨ decideSegment s m q g = .parkOpening f)
    (hroom : parkHasRoom s (segmentSpan s q g).length = true) :
    s.park.length + (requestWords q g).length ≤ Config.parkCapacity := by
  have hwords := requestWords_length_le q g
  have hlength : (segmentSpan s q g).length = g.length := by
    cases hcls : g.cls with
    | faceGuard w r => rw [segmentSpan_faceGuard hcls]; rfl
    | outside => simp [decideSegment, hcls] at hd
    | facePlain w r => simp [decideSegment, hcls] at hd
    | bankRange w k =>
      simp only [decideSegment, hcls, decideBankRange] at hd
      split at hd <;> simp at hd
  rw [hlength] at hroom
  exact (Nat.add_le_add_left hwords _).trans (of_decide_eq_true hroom)

/-! ### Two holds of one master and record -/

theorem Hold.GoesOn.held {h h' : Hold} (hon : h.GoesOn h') (hheld : h'.state ≠ .free) :
    h.state ≠ .free ∧ h'.master = h.master ∧ h'.window = h.window ∧ h'.record = h.record := by
  obtain rfl | rfl | ⟨hfree, -, hmaster, hwindow, hrecord⟩ := hon
  · exact ⟨hheld, rfl, rfl, rfl⟩
  · exact absurd rfl hheld
  · exact ⟨hfree, hmaster, hwindow, hrecord⟩

/-- Quiet moves keep holds of one master and record apart (R46). -/
theorem Quiet.holdsDistinct {d : Prop} {s t : State} (hmove : Quiet d s t) (hd : d) (h : HoldsDistinct s) :
    HoldsDistinct t := by
  cases hmove with
  | neutral hlanes hrest => rw [hrest]; exact h
  | reported r => rw [report_writes]; exact h
  | holds _ hs hon =>
    intro i j hi hj hmaster hwindow hrecord
    obtain ⟨hi', him, hiw, hir⟩ := (hon i).held hi
    obtain ⟨hj', hjm, hjw, hjr⟩ := (hon j).held hj
    exact h i j hi' hj' (him.symm.trans (hmaster.trans hjm)) (hiw.symm.trans (hwindow.trans hjw))
      (hir.symm.trans (hrecord.trans hjr))
  | copying _ i x hstate hservice hmode hone =>
    have hget (j : HoldNo) : (s.setHold i x).holds[j] = if i = j then x else s.holds[j] := getElem_set_fin _ _ _ _
    intro j k hj hk hmaster hwindow hrecord
    rw [hget] at hj hmaster hwindow hrecord
    rw [hget] at hk hmaster hwindow hrecord
    by_cases hij : i = j <;> by_cases hik : i = k
    · exact hij.symm.trans hik
    · simp only [if_pos hij, if_neg hik] at hk hmaster hwindow hrecord
      exact absurd (hone hd k ((isOf_iff _ _ _ _).2 ⟨hk, hmaster.symm, hwindow.symm, hrecord.symm⟩)).symm hik
    · simp only [if_neg hij, if_pos hik] at hj hmaster hwindow hrecord
      exact absurd (hone hd j ((isOf_iff _ _ _ _).2 ⟨hj, hmaster, hwindow, hrecord⟩)).symm hij
    · simp only [if_neg hij, if_neg hik] at hj hk hmaster hwindow hrecord
      exact h j k hj hk hmaster hwindow hrecord
  | _ => exact h

theorem quiets_holdsDistinct {d : Prop} {s t : State} (hmoves : Quiets d s t) (h : d → HoldsDistinct s) :
    d → HoldsDistinct t := fun hd => by
  induction hmoves with
  | refl => exact h hd
  | tail _ hmove ih => exact hmove.holdsDistinct hd ih

/-- The entry chosen for an opening is the only one its master can have for the record (R46, R51). -/
theorem chooseEntry_only {s : State} {m : Tag} {w : WindowNo} {r : Nat} {i : HoldNo} (h : HoldsDistinct s)
    (hi : chooseEntry s m w r = some i) (j : HoldNo) (hj : s.holds[j].isOf m w r = true) : j = i := by
  unfold chooseEntry at hi
  split at hi
  next k hk =>
    split at hi
    · cases hi
      obtain ⟨hjs, hjm, hjw, hjr⟩ := (isOf_iff _ _ _ _).1 hj
      obtain ⟨hks, hkm, hkw, hkr⟩ := (isOf_iff _ _ _ _).1 (findHold_spec hk)
      exact h j i hjs hks (hjm.trans hkm.symm) (hjw.trans hkw.symm) (hjr.trans hkr.symm)
    · cases hi
  next hnone => rw [tableFind_none.1 hnone j] at hj; cases hj

/-! ### The master's own entry given up (R58) -/

theorem isSettledBroken_iff (h : Hold) : h.isSettledBroken = true ↔ h.state = .broken ∧ h.slot = none := by
  simp only [Hold.isSettledBroken, Bool.and_eq_true, decide_eq_true_eq]

/-- An OPEN hold that closes leaves its entry FREE, and no other entry changes. -/
theorem closeHold_holds (i : HoldNo) (s : State) : (closeHold i s).holds = s.holds.set i .cleared := by
  simp only [closeHold]
  rw [leftOpen_writes, releaseSlot_writes]
  rfl

theorem surrender_holds (m : Tag) (w : WindowNo) (r : Nat) (s : State) :
    (surrender m w r s).holds = givenUp s m w r := by
  unfold surrender givenUp
  cases hfound : findHold s m w r with
  | none => rfl
  | some i =>
    dsimp only
    have hheld : s.holds[i].state ≠ .free := ((isOf_iff _ _ _ _).1 (findHold_spec hfound)).1
    cases hstate : s.holds[i].state with
    | free => exact absurd hstate hheld
    | opened => simp only [true_or, if_true, closeHold_holds]
    | copying => simp
    | broken =>
      simp only [isSettledBroken_iff, hstate, true_and, reduceCtorEq, false_or]
      split <;> rfl

theorem givenUp_of_none {s : State} {m : Tag} {w : WindowNo} {r : Nat} (h : findHold s m w r = none) :
    givenUp s m w r = s.holds := by
  simp only [givenUp, h]

theorem givenUp_of_some {s : State} {m : Tag} {w : WindowNo} {r : Nat} {j : HoldNo} (h : findHold s m w r = some j) :
    givenUp s m w r =
      if s.holds[j].state = .opened ∨ (s.holds[j].state = .broken ∧ s.holds[j].slot = none) then s.holds.set j .cleared
      else s.holds := by
  simp only [givenUp, h]

/-- A hold that is still OPEN was OPEN before, and is not the one given up. -/
theorem givenUp_opened {s : State} {m : Tag} {w : WindowNo} {r : Nat} {i : HoldNo}
    (h : (givenUp s m w r)[i].state = .opened) :
    (givenUp s m w r)[i] = s.holds[i] ∧ ∀ j, findHold s m w r = some j → j ≠ i := by
  cases hfound : findHold s m w r with
  | none =>
    rw [givenUp_of_none hfound]
    exact ⟨rfl, fun j hj => by cases hj⟩
  | some j =>
    rw [givenUp_of_some hfound] at h ⊢
    split at h
    next hgiven =>
      rw [if_pos hgiven]
      rw [getElem_set_fin] at h
      split at h
      next => cases h
      next hji => exact ⟨getElem_set_other _ _ _ _ hji, fun k hk => by cases hk; exact hji⟩
    next hkept =>
      rw [if_neg hkept]
      refine ⟨rfl, fun k hk => ?_⟩
      cases hk
      rintro rfl
      exact hkept (.inl h)

/-- Once it is given up, no OPEN hold on the record is the master's. -/
theorem givenUp_own {s : State} {m : Tag} {w : WindowNo} {r : Nat} (h : HoldsDistinct s) (i : HoldNo)
    (hi : (givenUp s m w r)[i].isOpenOn w r = true) : (givenUp s m w r)[i].master ≠ m := by
  obtain ⟨hopen, -, -⟩ := (isOpenOn_iff _ _ _).1 hi
  obtain ⟨hsame, hother⟩ := givenUp_opened hopen
  rw [hsame] at hi ⊢
  intro hmaster
  obtain ⟨his, hiw, hir⟩ := (isOpenOn_iff _ _ _).1 hi
  have hheld : s.holds[i].state ≠ .free := by rw [his]; decide
  cases hfound : findHold s m w r with
  | none =>
    have hof := (isOf_iff m w r _).2 ⟨hheld, hmaster, hiw, hir⟩
    rw [tableFind_none.1 hfound i] at hof
    cases hof
  | some j =>
    obtain ⟨hjs, hjm, hjw, hjr⟩ := (isOf_iff _ _ _ _).1 (findHold_spec hfound)
    exact hother j hfound (h j i hjs hheld (hjm.trans hmaster.symm) (hjw.trans hiw.symm) (hjr.trans hir.symm))

/-! ### Tests of waiting fills take no FREE entry -/

/-- FREE fill entries stand, and the Park Queue is as long as it was. -/
def OnlyTested (s t : State) : Prop :=
  (∀ f : FillNo, s.fills[f].state = .free → t.fills[f] = s.fills[f]) ∧ t.park.length = s.park.length

theorem OnlyTested.of_eq {s t : State} (hfills : t.fills = s.fills) (hpark : t.park = s.park) : OnlyTested s t :=
  ⟨fun f _ => by rw [hfills], by rw [hpark]⟩

theorem OnlyTested.trans {s t u : State} (h : OnlyTested s t) (k : OnlyTested t u) : OnlyTested s u := by
  refine ⟨fun f hf => ?_, k.2.trans h.2⟩
  have hf' := h.1 f hf
  exact (k.1 f (by rw [hf']; exact hf)).trans hf'

theorem onlyTested_tryActivate (w : WindowNo) (r : Nat) (s : State) : OnlyTested s (tryActivate w r s) := by
  unfold tryActivate
  split
  next => exact .of_eq rfl rfl
  next f _ =>
    split
    next hwaits =>
      split
      next => exact .of_eq rfl rfl
      next target _ =>
        refine ⟨fun g hg => getElem_set_other _ _ _ _ fun hfg => ?_, List.length_map _⟩
        subst hfg
        rw [hwaits] at hg
        cases hg
    next => exact .of_eq rfl rfl

theorem onlyTested_leftOpen (w : WindowNo) (r : Nat) (s : State) : OnlyTested s (leftOpen w r s) :=
  (OnlyTested.of_eq rfl rfl).trans (onlyTested_tryActivate w r (reofferWhen (Stall.isParkRoom w r) s))

theorem onlyTested_closeHold (i : HoldNo) (s : State) : OnlyTested s (closeHold i s) := by
  refine .trans (t := (releaseSlot s.holds[i].slot s).setHold i .cleared) (.of_eq ?_ ?_) (onlyTested_leftOpen _ _ _) <;>
    rw [releaseSlot_writes] <;> rfl

theorem onlyTested_surrender (m : Tag) (w : WindowNo) (r : Nat) (s : State) : OnlyTested s (surrender m w r s) := by
  unfold surrender
  split
  · exact .of_eq rfl rfl
  · split
    · exact onlyTested_closeHold _ s
    · split <;> exact .of_eq rfl rfl
    · exact .of_eq rfl rfl
    · exact .of_eq rfl rfl

theorem onlyTested_breakHold (reason : BreakReason) (i : HoldNo) (s : State) : OnlyTested s (breakHold reason i s) := by
  have hentry : OnlyTested s (breakEntry reason i s) := .of_eq (by rw [breakEntry_writes]) (by rw [breakEntry_writes])
  refine hentry.trans ?_
  change OnlyTested _ (afterBreak _ _)
  unfold afterBreak
  split
  · exact onlyTested_leftOpen _ _ _
  all_goals exact .of_eq rfl rfl

theorem onlyTested_breakAll (reason : BreakReason) (is : List HoldNo) (s : State) :
    OnlyTested s (breakAll reason is s) := by
  induction is generalizing s with
  | nil => exact .of_eq rfl rfl
  | cons i is ih => exact (onlyTested_breakHold reason i s).trans (ih _)

/-! ### Fates that need no grant (R14) -/

section
variable {d : Prop} {s : State} {m : Tag} {q : Request} {g : Segment} {sp : GuardSpan}

theorem quiets_refuseSegment (m : Tag) (n : Nat) (event : Option Report) (s : State) :
    Quiets d s (refuseSegment m n event s) := by
  simp only [refuseSegment]
  split
  · exact quiets_takeWords _ _ s
  · exact (quiets_takeWords _ _ s).trans (quiets_report _ _)

theorem takeWords_holds (m : Tag) (fates : List WordState) (s : State) : (takeWords m fates s).holds = s.holds := by
  rw [takeWords_writes]

theorem takeWords_fills (m : Tag) (fates : List WordState) (s : State) : (takeWords m fates s).fills = s.fills := by
  rw [takeWords_writes]

theorem takeWords_park (m : Tag) (fates : List WordState) (s : State) : (takeWords m fates s).park = s.park := by
  rw [takeWords_writes]

theorem quiets_serveSegment {i : HoldNo} (hopen : s.holds[i].state = .opened) : Quiets d s (serveSegment m i sp s) := by
  refine (quiets_takeWords m _ s).trans (.trans (quiets_coverHold ?_ _ _) (quiets_drainTest _ _))
  rw [takeWords_holds, hopen]
  decide

theorem quiets_bindSegment {i : HoldNo} {k : SlotNo} (hd : d → HoldsDistinct s)
    (hservice : s.windows[sp.window].decoded = true) (hmode : (s.cfg sp.window).mode = .snap)
    (hentry : chooseEntry s m sp.window sp.record = some i) : Quiets d s (bindSegment m i k sp s) := by
  have hcopying := Quiet.copying (d := d) s i
    { state := .copying, master := m, window := sp.window, record := sp.record,
      versionSeen := (s.dirEntry sp.window sp.record).version, damagedAtOpen := (s.dirEntry sp.window sp.record).damaged,
      pinnedBank := none, slot := some k, coverage := 0, countdown := (s.cfg sp.window).holdLimit, reason := none,
      leftService := false } rfl hservice hmode fun h j hj => chooseEntry_only (hd h) hentry j hj
  refine hcopying.one.trans (.trans (b := bindSegment m i k sp s) ?_ .refl)
  refine (Quiet.neutral (fun n => .inl (length_set_lane (s := s) ?_ n)) rfl).one
  rfl

theorem quiets_parkSegment {f : FillNo} {ws : List WriteWord} (hwaits : s.fills[f].state = .waiting)
    (howner : s.fills[f].owner = m) (hw : s.fills[f].window = sp.window) (hr : s.fills[f].record = sp.record)
    (hroom : s.park.length + ws.length ≤ Config.parkCapacity) : Quiets d s (parkSegment m f sp ws s) := by
  refine (quiets_takeWords m _ s).trans (quiets_parkWords ?_ ?_ ?_ ?_ ?_)
  all_goals simp only [takeWords_fills, takeWords_park]; assumption

/-- The lowest-numbered FREE fill entry is FREE. -/
theorem freeFill_spec {f : FillNo} (h : freeFill s = some f) : s.fills[f].state = .free :=
  of_decide_eq_true (tableFind_holds (p := fun x : Fill => decide (x.state = .free)) h)

theorem quiets_parkOpeningSegment {f : FillNo} {ws : List WriteWord} (hd : d → HoldsDistinct s)
    (hfree : s.fills[f].state = .free) (hroom : s.park.length + ws.length ≤ Config.parkCapacity) :
    Quiets d s (parkOpeningSegment m f sp ws s) := by
  let s1 := surrender m sp.window sp.record s
  obtain ⟨hstands, hlength⟩ := onlyTested_surrender m sp.window sp.record s
  let s2 := allocateFill f .waiting m sp.window sp.record none s1
  have hopened : Quiet d s1 s2 := by
    refine Quiet.fillOpened s1 f _ (by rw [hstands f hfree]; exact hfree) rfl rfl fun h i hi => ?_
    rw [surrender_holds] at hi ⊢
    exact givenUp_own (hd h) i hi
  have hfill : s2.fills[f] = _ := getElem_set_same _ _ _
  refine (quiets_surrender m _ _ s).trans (hopened.one.trans (quiets_parkSegment (s := s2) ?_ ?_ ?_ ?_ ?_))
  · rw [hfill]
  · rw [hfill]
  · rw [hfill]
  · rw [hfill]
  · have hpark : s2.park.length = s.park.length := hlength
    rw [hpark]
    exact hroom

/-- A lane set with the requests it had is a neutral move. -/
theorem quiets_setLane {l : Lane} (hqueue : l.reqs.length = s.lanes[m].reqs.length) :
    Quiets d s (s.setLane m l) :=
  (Quiet.neutral (fun n => .inl (length_set_lane hqueue n)) rfl).one

theorem quiets_stallForFill (m : Tag) (sp : GuardSpan) (s : State) : Quiets d s (stallForFill m sp s) := by
  have hlane : Quiets d s
      (s.setLane m { s.lanes[m] with phase := .stalled .fillTable, exhaustedNoted := true }) := quiets_setLane rfl
  simp only [stallForFill]
  split
  · exact hlane
  · exact hlane.trans (quiets_report _ _)

theorem quiets_stallForRoom (m : Tag) (sp : GuardSpan) (s : State) : Quiets d s (stallForRoom m sp s) := by
  have hlane : Quiets d s
      (s.setLane m { s.lanes[m] with phase := .stalled (.parkRoom sp.window sp.record), parkFullNoted := true }) :=
    quiets_setLane rfl
  simp only [stallForRoom]
  split
  · exact hlane
  · exact hlane.trans (quiets_report _ _)

/-- The fate of a head segment, carried out without a grant, is a chain of quiet moves. -/
theorem quiets_carryOut (hd : d → HoldsDistinct s) (hhead : headSegment s m = some (q, g)) :
    Quiets d s (carryOut m q g (decideSegment s m q g) s) := by
  have hsays := decideSegment_saysOf hhead
  have hroom (f : FillNo) := parkHasRoom_words (s := s) (m := m) (q := q) (g := g) (f := f)
  unfold carryOut
  dsimp only
  split
  next => exact quiets_setPhase m _ s
  next => exact quiets_refuseSegment m _ _ s
  next i hdec =>
    rw [hdec] at hsays
    exact quiets_serveSegment hsays
  next i k hdec =>
    rw [hdec] at hsays
    obtain ⟨hservice, hmode, hentry⟩ := hsays
    exact quiets_bindSegment hd hservice hmode hentry
  next f hdec =>
    rw [hdec] at hsays
    obtain ⟨hopen, howner, hwaits, hplaces⟩ := hsays
    obtain ⟨-, hw, hr⟩ := openFill_spec hopen
    exact quiets_parkSegment hwaits howner hw hr (hroom f (.inl hdec) hplaces)
  next f hdec =>
    rw [hdec] at hsays
    obtain ⟨hfree, hplaces⟩ := hsays
    exact quiets_parkOpeningSegment hd (freeFill_spec hfree) (hroom f (.inr hdec) hplaces)
  next => exact quiets_setPhase m _ s
  next => exact quiets_stallForFill m _ s
  next => exact quiets_stallForRoom m _ s

theorem quiets_offer (hd : d → HoldsDistinct s) (m : Tag) : Quiets d s (offer m s) := by
  unfold offer
  split
  next => exact .refl
  next hhead => exact quiets_carryOut hd hhead

/-! ### Due steps (log 3, 4) -/

theorem quiets_takeDue (hd : d → HoldsDistinct s) (due : Due) : Quiets d s (takeDue due s) := by
  cases due with
  | hold i => exact quiets_expireHold i s
  | linger i => exact quiets_expireLinger i s
  | fill f => exact quiets_expireFill f s
  | drain w => exact quiets_expireDrain w s
  | alert => exact (Quiet.alerted s).one
  | sweep => exact quiets_startSweep s
  | offer m =>
    simp only [takeDue]
    split
    · exact quiets_offer hd m
    · exact .refl

theorem quiets_settleFor (n : Nat) (hd : d → HoldsDistinct s) : Quiets d s (settleFor n s) := by
  induction n generalizing s with
  | zero => exact .refl
  | succ n ih =>
    simp only [settleFor]
    split
    · exact .refl
    · have htaken := quiets_takeDue hd
      exact (htaken _).trans (ih (quiets_holdsDistinct (htaken _) hd))
    · have hdrawn : Quiets d s s.drawn := quiets_drawn s
      have htaken := quiets_takeDue (quiets_holdsDistinct hdrawn hd)
      exact hdrawn.trans ((htaken _).trans (ih (quiets_holdsDistinct (hdrawn.trans (htaken _)) hd)))

theorem quiets_settle (hd : d → HoldsDistinct s) : Quiets d s (settle s) := quiets_settleFor settleFuel hd

end

end Sys2Proof.Machine
end

section
/-! SUPPORT. Every step is a chain of moves (R13 to R18, chapters 8, 10 and 11): the quiet ones, and the few that issue a
request, open a hold or an ACTIVE fill, take a word out of the Park Queue, configure a window or reset. -/

namespace Sys2Proof.Machine

open Sys2Proof.Statements

/-! ### Moves -/

/-- The fills after one word of the named fill has left the Park Queue (R101). -/
def fillsUnparked (ref : Option FillRef) (s : State) : Vector Fill 16 :=
  match ref with
  | none => s.fills
  | some f =>
    if refersTo f s then s.fills.set f.index { s.fills[f.index] with parked := s.fills[f.index].parked - 1 } else s.fills

/-- The tables a soft reset clears, with the parked words left to be released (R26, R69, R90, R107). -/
def clearTables (release : ParkEntry → ParkEntry) (s : State) : State :=
  { s with
    windows := tableMap (fun _ x => { x with state := .off }) s.windows
    holds := .replicate 32 .cleared
    fills := tableMap (fun _ x => .cleared x.generation) s.fills
    park := s.park.map release }

/-- The commands that issue downstream requests (R19). -/
def Grants (c : Instr) : Prop := c = .laneSegmentGrant ∨ c = .copyRequestGrant ∨ c = .parkReleaseGrant

/-- One move of a step that runs command c. Only a grant lets the in-flight list grow, and only TICK the age countdown run. -/
inductive Move (c : Instr) : State → State → Prop where
  | quiet {s t : State} (h : Quiet False s t) : Move c s t
  | inFlight (s : State) (l : List InFlight) (h : l.length ≤ s.inFlight.length ∨ (Grants c ∧ l.length ≤ Config.maxInFlight)) :
      Move c s { s with inFlight := l }
  /-- The copy of a COPYING hold has returned (R129). -/
  | copied (s : State) (i : HoldNo) (h : s.holds[i].state = .copying) :
      Move c s (s.setHold i { s.holds[i] with state := .opened })
  /-- A hold opens at a grant: its window is in service, and no RELEASED word waits (R19, R50). -/
  | opened (s : State) (i : HoldNo) (x : Hold) (hstate : x.state = .opened)
      (hservice : s.windows[x.window].decoded = true) (hnone : s.park.any ParkEntry.isReleased = false) :
      Move c s (s.setHold i x)
  /-- A fill opens ACTIVE (R74). -/
  | fillOpened (s : State) (f : FillNo) (x : Fill) (hfree : s.fills[f].state = .free) (hstate : x.state = .active)
      (hparked : x.parked = 0) : Move c s (s.setFill f x)
  /-- A word leaves the Park Queue (R101). -/
  | unparked (s : State) (pre post : List ParkEntry) (e : ParkEntry) (h : s.park = pre ++ e :: post) :
      Move c s { s with park := pre ++ post, fills := fillsUnparked e.fill s }
  /-- A window out of service is written or put in service (R24, R32). -/
  | configured (s : State) (w : WindowNo) (x : Window) (h : s.windows[w].decoded = false) : Move c s (s.setWindow w x)
  /-- Records are read, the event control is set, or the Event Unit is reset (R150, R153, R159). -/
  | events (s : State) (u : EventUnit) (a : Bool) (hqueue : u.queue.length ≤ s.events.queue.length)
      (hcontrol : ControlOk s → ControlOk { s with events := u }) (halert : ControlOk s → a = u.alertCondition) :
      Move c s { s with events := u, alertLow := a }
  | aged (htick : c = .tick) (s : State) : Move c s { s with events := s.events.tick }
  | resetTables (s : State) (release : ParkEntry → ParkEntry)
      (h : ∀ e : ParkEntry, (release e).fill = none ∧ (release e).condition ≠ .parked) :
      Move c s (clearTables release s)
  | pinReset (s : State) : Move c s (pinReset s)

/-- A chain of moves. -/
abbrev Moves (c : Instr) : State → State → Prop := Relation.ReflTransGen (Move c)

section
variable {c : Instr} {s t u : State} {m : Tag} {q : Request} {g : Segment} {sp : GuardSpan}

theorem Move.one (h : Move c s t) : Moves c s t := .single h

theorem ofQuiets (h : Quiets False s t) : Moves c s t := h.lift id fun _ _ => .quiet

/-! ### Issue -/

theorem moves_issue (hgrant : Grants c) (x : InFlight) (h : canIssue s = true) : Moves c s (issue x s) := by
  refine (Move.inFlight s (s.inFlight ++ [x]) (.inr ⟨hgrant, ?_⟩)).one
  rw [List.length_append]
  exact of_decide_eq_true h

theorem moves_issueRead (hgrant : Grants c) (addr : WordAddr) (guard : GuardStatus) (origin : Option GuardReadOrigin)
    (overlay : List WriteWord) (h : canIssue s = true) : Moves c s (issueRead m q g addr guard origin overlay s) :=
  (moves_issue hgrant _ h).trans (ofQuiets (quiets_takeWords m _ _))

theorem moves_issueWrite (hgrant : Grants c) (addr : WordAddr) (origin : Option GuardWriteOrigin) (h : canIssue s = true) :
    Moves c s (issueWrite m q g addr origin s) :=
  (moves_issue hgrant _ h).trans (ofQuiets (quiets_takeWords m _ _))

theorem moves_issuePlain (hgrant : Grants c) (h : canIssue s = true) : Moves c s (issuePlain m q g s) := by
  unfold issuePlain
  split
  · exact moves_issueRead hgrant _ _ _ _ h
  · exact moves_issueWrite hgrant _ _ h

theorem moves_issueGuardRead (hgrant : Grants c) (bank : Option Bank) (guard : GuardStatus) (hold : Option HoldNo)
    (overlay : List WriteWord) (h : canIssue s = true) : Moves c s (issueGuardRead m q g sp bank guard hold overlay s) :=
  moves_issueRead hgrant _ _ _ _ h

theorem moves_coverHold {i : HoldNo} (hheld : s.holds[i].state ≠ .free) (a n : Nat) : Moves c s (coverHold i a n s) :=
  (ofQuiets (quiets_coverHold hheld a n))

theorem moves_drainTest (w : WindowNo) (s : State) : Moves c s (drainTest w s) := (ofQuiets (quiets_drainTest w s))

theorem issueGuardRead_holds (bank : Option Bank) (guard : GuardStatus) (hold : Option HoldNo) (overlay : List WriteWord)
    (s : State) : (issueGuardRead m q g sp bank guard hold overlay s).holds = s.holds := by
  rw [issueGuardRead_writes]

theorem moves_issueFillWrite (hgrant : Grants c) {f : FillNo} (h : canIssue s = true) (hopen : s.fills[f].state ≠ .free) :
    Moves c s (issueFillWrite m q g sp f s) := by
  let s1 := countCoverage f sp.offset (requestWords q g) s
  have hissued : Moves c s1 (issueWrite m q g (recordWord (s.cfg sp.window) s.fills[f].target sp.record sp.offset)
      (some ⟨sp.window, sp.record, (s.cfg sp.window).dirIndex sp.record, fillRef s f⟩) s1) := moves_issueWrite hgrant _ _ h
  refine (ofQuiets (quiets_countCoverage hopen sp.offset (requestWords q g))).trans (hissued.trans ?_)
  exact (ofQuiets (quiets_fillIssued f _)).trans (moves_drainTest _ _)

theorem moves_issueFillOpening (hgrant : Grants c) {f : FillNo} {target : Option Bank} {ys : List HoldNo} (h : canIssue s = true)
    (hfree : s.fills[f].state = .free) : Moves c s (issueFillOpening m q g sp f target ys s) := by
  let s1 := surrender m sp.window sp.record s
  let s2 := breakAll .yielded (freeOrder s.freeCount ys) s1.drawn
  let s3 := allocateFill f .active m sp.window sp.record target s2
  let s4 := reofferWhen (Stall.isParkRoom sp.window sp.record) s3
  have htested : OnlyTested s s2 :=
    (onlyTested_surrender m sp.window sp.record s).trans
      (.trans (t := s1.drawn) (.of_eq rfl rfl) (onlyTested_breakAll .yielded (freeOrder s.freeCount ys) s1.drawn))
  have hopened : Move c s2 s3 := .fillOpened s2 f _ (by rw [htested.1 f hfree]; exact hfree) rfl rfl
  have hissue : canIssue s4 = true := by
    have hlist : s4.inFlight = s.inFlight := by
      change s2.inFlight = s.inFlight
      simp only [s2]
      rw [breakAll_writes]
      change s1.inFlight = s.inFlight
      simp only [s1]
      rw [surrender_writes]
    rw [canIssue, hlist]
    exact h
  have hactive : s4.fills[f].state ≠ .free := by
    have hfill : s4.fills[f] = _ := getElem_set_same _ _ _
    rw [hfill]
    nofun
  refine (ofQuiets (quiets_surrender m _ _ s)).trans ((ofQuiets (quiets_drawn s1)).trans ?_)
  refine (ofQuiets (quiets_breakAll .yielded _ _)).trans (hopened.one.trans ?_)
  exact (ofQuiets (quiets_reofferWhen _ s3)).trans (moves_issueFillWrite hgrant hissue hactive)

theorem quiets_freeOwnBroken {d : Prop} (m : Tag) (w : WindowNo) (r : Nat) (s : State) :
    Quiets d s (freeOwnBroken m w r s) := by
  unfold freeOwnBroken
  split
  · exact .refl
  · split
    · exact quiets_clearHold _ s
    · exact .refl

theorem moves_loadHold {i : HoldNo} {w : WindowNo} (r : Nat) (pin : Option Bank) (slot : Option SlotNo)
    (hservice : s.windows[w].decoded = true) (hnone : s.park.any ParkEntry.isReleased = false) :
    Moves c s (loadHold i .opened m w r pin slot s) := by
  have hopened := Move.opened (c := c) s i
    { state := .opened, master := m, window := w, record := r, versionSeen := (s.dirEntry w r).version,
      damagedAtOpen := (s.dirEntry w r).damaged, pinnedBank := pin, slot := slot, coverage := 0,
      countdown := (s.cfg w).holdLimit, reason := none, leftService := false } rfl hservice hnone
  exact hopened.one.trans (ofQuiets (quiets_count .holdsOpened w _))

/-- What a way of issue needs of the state it is carried out in. -/
def IssueKind.SoundIn (s : State) (sp : GuardSpan) : IssueKind → Prop
  | .continuation i => s.holds[i].state = .opened
  | .opening _ => s.windows[sp.window].decoded = true
  | .brokenContinuation i => s.holds[i].state = .broken
  | .fillWrite f => s.fills[f].state ≠ .free
  | .fillOpening f _ _ => s.fills[f].state = .free
  | .plain | .ownView _ | .denied _ | .wholeRecord | .unguarded => True

theorem segmentSpan_noted (s : State) (m : Tag) (q : Request) (g : Segment) :
    segmentSpan { s with lastIssueLane := m } q g = segmentSpan s q g := by
  unfold segmentSpan
  cases g.cls <;> rfl

/-- A way of issue decided in a state is sound once the lane is noted as the last one granted. -/
theorem soundIn_noted {how : IssueKind} (h : how.SaysOf s m (segmentSpan s q g)) :
    how.SoundIn { s with lastIssueLane := m } (segmentSpan { s with lastIssueLane := m } q g) := by
  rw [segmentSpan_noted]
  cases how with
  | continuation i => exact h
  | opening i => exact h.1
  | brokenContinuation i => exact h
  | fillWrite f => exact (openFill_spec h.1).1
  | fillOpening f target ys => exact freeFill_spec h.1
  | _ => trivial

/-- A segment is issued as its owner decided, where no RELEASED word waits (R13, R19). -/
theorem moves_issueSegment (hgrant : Grants c) {how : IssueKind} (h : canIssue s = true) (hnone : s.park.any ParkEntry.isReleased = false)
    (hsound : how.SoundIn s (segmentSpan s q g)) : Moves c s (issueSegment m q g how s) := by
  unfold issueSegment
  dsimp only
  split
  next => exact moves_issuePlain hgrant h
  next => exact moves_issueGuardRead hgrant _ _ _ _ h
  next i =>
    refine (moves_issueGuardRead hgrant _ _ _ _ h).trans (.trans (moves_coverHold ?_ _ _) (moves_drainTest _ _))
    rw [issueGuardRead_holds, show s.holds[i].state = .opened from hsound]
    decide
  next i =>
    let s1 := loadHold i .opened m (segmentSpan s q g).window (segmentSpan s q g).record
      (readBank s (segmentSpan s q g).window (segmentSpan s q g).record) none s
    have hloaded : Moves c s s1 := moves_loadHold _ _ _ hsound hnone
    refine hloaded.trans (.trans (moves_issueGuardRead hgrant (s := s1) _ _ _ _ h) (moves_coverHold ?_ _ _))
    have hhold : s1.holds[i] = _ := getElem_set_same _ _ _
    rw [issueGuardRead_holds, hhold]
    nofun
  next =>
    exact (moves_issueGuardRead hgrant _ _ _ _ h).trans ((ofQuiets (quiets_report _ _)).trans (ofQuiets (quiets_count _ _ _)))
  next =>
    refine (ofQuiets (quiets_freeOwnBroken m _ _ s)).trans (moves_issueGuardRead hgrant _ _ _ _ ?_)
    rw [canIssue, freeOwnBroken_writes]
    exact h
  next i =>
    refine (moves_issueGuardRead hgrant _ _ _ _ h).trans (moves_coverHold ?_ _ _)
    rw [issueGuardRead_holds, show s.holds[i].state = .broken from hsound]
    decide
  next => exact moves_issueGuardRead hgrant _ _ _ _ h
  next f =>
    exact moves_issueFillWrite hgrant h hsound
  next f target ys =>
    exact moves_issueFillOpening hgrant h hsound

/-! ### Grants (R19) -/

theorem Quiet.inFlight_eq {d : Prop} (hmove : Quiet d s t) : t.inFlight = s.inFlight := by
  cases hmove with
  | neutral hlanes hrest => rw [hrest]
  | reported r => rw [report_writes]
  | _ => rfl

theorem quiets_inFlight {d : Prop} (hmoves : Quiets d s t) : t.inFlight = s.inFlight := by
  induction hmoves with
  | refl => rfl
  | tail _ hmove ih => exact hmove.inFlight_eq.trans ih

theorem moves_grantCopy (hgrant : Grants c) (s : State) : Moves c s (grantCopy s) := by
  unfold grantCopy
  split
  next => exact .refl
  next x xs _ =>
    split
    next h =>
      have hpopped : Moves c s { s with copies := xs } := (ofQuiets (quiets_neutral (fun _ => rfl) rfl))
      exact hpopped.trans (.trans (moves_issue hgrant (s := { s with copies := xs }) _ h) (ofQuiets (quiets_copyMoved _ _ _)))
    next => exact .refl

/-- The earliest RELEASED entry stands after PARKED ones only. -/
theorem firstReleased_spec {l : List ParkEntry} {e : ParkEntry} {a : WordAddr} {rest : List ParkEntry}
    (h : firstReleased l = some (e, a, rest)) :
    ∃ pre post, l = pre ++ e :: post ∧ rest = pre ++ post ∧ e.condition = .released a := by
  induction l generalizing rest with
  | nil => cases h
  | cons x xs ih =>
    simp only [firstReleased] at h
    split at h
    next b hcondition =>
      cases h
      exact ⟨[], xs, rfl, rfl, hcondition⟩
    next =>
      obtain ⟨⟨e', a', rest'⟩, hfound, heq⟩ := Option.map_eq_some_iff.1 h
      cases heq
      obtain ⟨pre, post, hxs, hrest, hcondition⟩ := ih hfound
      exact ⟨x :: pre, post, by rw [hxs]; rfl, by rw [hrest]; rfl, hcondition⟩

theorem fillReleased_eq (ref : Option FillRef) (s : State) :
    fillReleased ref s = match ref with
      | none => s
      | some f => if refersTo f s then fillIssued f.index { s with fills := fillsUnparked ref s } else s := by
  cases ref with
  | none => rfl
  | some f =>
    simp only [fillReleased, fillsUnparked]
    split
    · rfl
    · rfl

theorem moves_fillReleased (ref : Option FillRef) (s : State) :
    Moves c { s with fills := fillsUnparked ref s } (fillReleased ref s) := by
  cases ref with
  | none => exact .refl
  | some f =>
    simp only [fillReleased, fillsUnparked]
    split
    · exact (ofQuiets (quiets_fillIssued _ _))
    · exact .refl

theorem moves_grantRelease (hgrant : Grants c) (s : State) : Moves c s (grantRelease s) := by
  unfold grantRelease
  split
  next hfree =>
    obtain ⟨hissue, -⟩ := Bool.and_eq_true_iff.1 hfree
    split
    next => exact .refl
    next e a rest hfound =>
      obtain ⟨pre, post, hpark, rfl, -⟩ := firstReleased_spec hfound
      let x := e.toInFlight a
      let s1 := { s with park := pre ++ post, fills := fillsUnparked e.fill s }
      let s2 := reofferWhen Stall.isAnyParkRoom (issue x { s with park := pre ++ post })
      have hissued : Moves c s1 { s2 with fills := fillsUnparked e.fill s2 } :=
        (moves_issue hgrant (s := s1) x hissue).trans (ofQuiets (quiets_reofferWhen Stall.isAnyParkRoom _))
      refine (Move.unparked s pre post e hpark).one.trans (hissued.trans ?_)
      exact (moves_fillReleased e.fill s2).trans (moves_drainTest _ _)
  next => exact .refl

/-- What an arbiter that goes on needs to know. -/
theorem moves_grantAgain (hgrant : Grants c) {lanes : State → State} (hlanes : ∀ s : State, canIssue s = true →
      s.park.any ParkEntry.isReleased = false → Moves c s (lanes s)) (h : canIssue s = true) :
    Moves c s (grantAgain lanes s) := by
  unfold grantAgain
  split
  · split
    · exact moves_grantRelease hgrant s
    next hnone => exact hlanes s h (Bool.not_eq_true _ ▸ hnone)
  · exact moves_grantCopy hgrant s

theorem moves_carryOut (hhead : headSegment s m = some (q, g)) :
    Moves c s (carryOut m q g (decideSegment s m q g) s) := (ofQuiets (quiets_carryOut (fun h => h.elim) hhead))

theorem canIssue_carryOut (d : Decision) : canIssue (carryOut m q g d s) = canIssue s := by
  rw [canIssue, carryOut_writes]
  rfl

theorem moves_grantLane (hgrant : Grants c) {again : State → State} (hagain : ∀ s : State, canIssue s = true → Moves c s (again s))
    (h : canIssue s = true) (hnone : s.park.any ParkEntry.isReleased = false) : Moves c s (grantLane again m s) := by
  cases hhead : headSegment s m with
  | none =>
    simp only [grantLane, hhead]
    exact hagain s h
  | some p =>
    obtain ⟨q, g⟩ := p
    by_cases hissue : ∃ how, decideSegment s m q g = .issue how
    · obtain ⟨how, hdecide⟩ := hissue
      have hsays := decideSegment_saysOf hhead
      rw [hdecide] at hsays
      rw [grantLane_issue again hhead hdecide]
      have hnoted : Moves c s { s with lastIssueLane := m } := (ofQuiets (quiets_neutral (fun _ => rfl) rfl))
      exact hnoted.trans (moves_issueSegment hgrant (s := { s with lastIssueLane := m }) h hnone (soundIn_noted hsays))
    · rw [grantLane_other again hhead fun how hdecide => hissue ⟨how, hdecide⟩]
      exact (moves_carryOut hhead).trans (hagain _ ((canIssue_carryOut _).trans h))

theorem moves_grantRound (hgrant : Grants c) (ms : List Tag) (h : canIssue s = true) (hnone : s.park.any ParkEntry.isReleased = false) :
    Moves c s (grantRound ms s) := by
  induction ms generalizing s with
  | nil => exact .refl
  | cons m ms ih =>
    simp only [grantRound]
    split
    · exact moves_grantLane hgrant (fun _ h => moves_grantAgain hgrant (fun _ h hnone => ih h hnone) h) h hnone
    · exact ih h hnone

theorem moves_grantNextLane (hgrant : Grants c) (s : State) : Moves c s (grantNextLane s) := by
  unfold grantNextLane
  split
  next hturn =>
    simp only [laneTurn, Bool.and_eq_true, Bool.not_eq_true'] at hturn
    exact moves_grantRound hgrant _ hturn.1.1 hturn.2
  next => exact .refl

end

end Sys2Proof.Machine
end

section
/-! SUPPORT. Every step is a chain of moves, command by command. -/

namespace Sys2Proof.Machine

open Sys2Proof.Statements

section
variable {c : Instr} {s t : State}

theorem moves_settle (s : State) : Moves c s (settle s) := ofQuiets (quiets_settle fun h => h.elim)

/-! ### Lanes (R1, R6, R7) -/

theorem join_length (addr : WordAddr) (body : Body) (l : Lane) : (l.join addr body).reqs.length = l.reqs.length + 1 := by
  unfold Lane.join
  dsimp only
  split
  · rw [advance_length, List.length_append]
    rfl
  · exact List.length_append

theorem grantResponse_lanes (s : State) : (grantResponse s).lanes = s.lanes := by rw [grantResponse_writes]

theorem moves_acceptRequest (m : Tag) (addr : WordAddr) (body : Body) (s : State) :
    Moves c s (acceptRequest m addr body s) := by
  unfold acceptRequest
  split
  next hroom =>
    refine ofQuiets (Quiet.neutral (fun n => ?_) (by rw [grantResponse_writes]; rfl)).one
    rw [grantResponse_lanes, setLane_lanes, getElem_set_fin]
    split
    next =>
      right
      rw [join_length]
      exact hroom
    next => exact .inl le_rfl
  next => exact .refl

theorem moves_deliver (s : State) : Moves c s (deliver s) := by
  unfold deliver
  split
  next => exact .refl
  next m _ =>
    split
    next => exact .refl
    next q qs hqueue =>
      split
      next =>
        refine ofQuiets (Quiet.neutral (fun n => .inl ?_) (by rw [grantResponse_writes]; rfl)).one
        rw [grantResponse_lanes, setLane_lanes, getElem_set_fin]
        split
        next hmn =>
          subst hmn
          rw [hqueue]
          exact Nat.le_succ _
        next => exact le_rfl
      next => exact .refl

/-! ### Responses (R17) -/

theorem moves_popInFlight {x : InFlight} {rest : List InFlight} (h : s.inFlight = x :: rest) :
    Moves c s { s with inFlight := rest } :=
  (Move.inFlight s rest (.inl (by rw [h]; exact Nat.le_succ _))).one

theorem quiets_faultFillWrite {d : Prop} (m : Tag) (o : GuardWriteOrigin) (s : State) :
    Quiets d s (faultFillWrite m o s) := (quiets_fillWriteFaulted _ _ s).trans (quiets_report _ _)

theorem quiets_answerWrite {d : Prop} (p : LanePos) (origin : Option GuardWriteOrigin) (status : BeatStatus) (s : State) :
    Quiets d s (answerWrite p origin status s) := by
  simp only [answerWrite]
  split
  · exact quiets_placeWords p _ s
  · split
    · exact quiets_placeWords p _ s
    · exact (quiets_placeWords p _ s).trans (quiets_faultFillWrite _ _ _)

theorem moves_respondSegment {resp : MemResponse} (h : respondSegment resp s = .next t) : Moves c s t := by
  unfold respondSegment at h
  split at h
  next => cases h; exact .refl
  next x rest hlist =>
    have hpop := moves_popInFlight (c := c) hlist
    dsimp only at h
    split at h
    next p _ overlay beats _ =>
      split at h
      · cases h
        exact hpop.trans (ofQuiets (quiets_placeWords p _ _))
      · cases h
    next => cases h; exact hpop.trans (ofQuiets (quiets_answerWrite _ _ _ _))
    next => cases h
    next => cases h
    next => cases h; exact .refl
    next => cases h; exact .refl

theorem takeBound_holds (m : Tag) (fates : Nat → List WordState) (s : State) : (takeBound m fates s).holds = s.holds := by
  rw [takeBound_writes]

theorem moves_openFromCopy {i : HoldNo} (j : SlotNo) (m : Tag) (ws : List Word) (h : s.holds[i].state = .copying) :
    Moves c s (openFromCopy i j m ws s) := by
  let n := (s.cfg s.holds[i].window).guardLen.toNat
  let s1 := s.setSlot j (.loaded i n (ws.take n))
  let s2 := s1.setHold i { s1.holds[i] with state := .opened }
  let s3 := takeBound m (slotBeats ws (heldOrTorn s.holds[i].damagedAtOpen) 0) s2
  have hopen : s3.holds[i].state ≠ .free := by
    rw [show s3.holds = s2.holds from takeBound_holds _ _ _, show s2.holds[i] = _ from getElem_set_same _ _ _]
    nofun
  refine (ofQuiets (quiets_setSlot j _ s)).trans ((Move.copied s1 i h).one.trans ?_)
  refine (ofQuiets (quiets_takeBound m _ s2)).trans ((moves_coverHold hopen 0 s.lanes[m].boundLength).trans ?_)
  exact (ofQuiets (quiets_copyMoved _ _ _)).trans (moves_drainTest _ _)

theorem moves_endBrokenCopy {i : HoldNo} (j : SlotNo) (m : Tag) (ws : List Word) (h : s.holds[i].state = .broken) :
    Moves c s (endBrokenCopy i j m ws s) := by
  let s1 := takeBound m (slotBeats ws .torn 0) (s.setSlot j .free)
  have htaken : Moves c s s1 :=
    (ofQuiets (quiets_setSlot j .free s)).trans (ofQuiets (quiets_takeBound m _ _))
  have hheld : s1.holds[i] = s.holds[i] := by
    rw [show s1.holds = s.holds from takeBound_holds _ _ _]
  simp only [endBrokenCopy]
  split
  · exact htaken.trans (ofQuiets (quiets_clearHold i s1))
  · refine htaken.trans (ofQuiets (quiets_setHold ?_))
    rw [hheld]
    exact .inr (.inr ⟨by rw [h]; decide, .inl rfl, rfl, rfl, rfl⟩)

theorem moves_copyReturned (i : HoldNo) (j : SlotNo) (m : Tag) (orphan : Bool) (ws : List Word) (s : State) :
    Moves c s (copyReturned i j m orphan ws s) := by
  unfold copyReturned
  split
  · exact ofQuiets (quiets_takeBound m _ s)
  · split
    next h => exact moves_openFromCopy j m ws h
    next h => exact moves_endBrokenCopy j m ws h
    next => exact .refl
    next => exact .refl

theorem moves_copyFailed (i : HoldNo) (j : SlotNo) (w : WindowNo) (r : Nat) (m : Tag) (orphan : Bool) (s : State) :
    Moves c s (copyFailed i j w r m orphan s) := by
  let s1 := takeBound m (fun n => List.replicate n refusedWord) s
  have htaken : Moves c s s1 := ofQuiets (quiets_takeBound m _ s)
  have hcleared : Moves c s1 (copyMoved w r ((s1.setHold i .cleared).setSlot j .free)) :=
    ofQuiets ((quiets_clearHold i s1).trans ((quiets_setSlot j .free _).trans (quiets_copyMoved w r _)))
  simp only [copyFailed]
  split
  · exact htaken.trans ((ofQuiets (quiets_report _ _)).trans (moves_drainTest w _))
  · exact htaken.trans (hcleared.trans ((ofQuiets (quiets_report _ _)).trans (moves_drainTest w _)))

theorem moves_respondCopy {beats : List MemBeat} (h : respondCopy beats s = .next t) : Moves c s t := by
  unfold respondCopy at h
  split at h
  next => cases h; exact .refl
  next x rest hlist =>
    have hpop := moves_popInFlight (c := c) hlist
    dsimp only at h
    split at h
    next =>
      split at h
      · split at h
        · cases h
          exact hpop.trans (moves_copyReturned _ _ _ _ _ _)
        · cases h
          exact hpop.trans (moves_copyFailed _ _ _ _ _ _ _)
      · cases h
    all_goals cases h; exact .refl

theorem moves_respondRelease (status : BeatStatus) (s : State) : Moves c s (respondRelease status s) := by
  unfold respondRelease
  split
  next => exact .refl
  next x rest hlist =>
    have hpop := moves_popInFlight (c := c) hlist
    dsimp only
    split
    · split
      · exact hpop
      · exact hpop.trans (ofQuiets ((quiets_fillWriteFaulted _ _ _).trans (quiets_report _ _)))
    all_goals exact .refl

/-! ### The tick (R136 to R140) -/

theorem tick_goesOn (limit : BitVec 16) (h : Hold) : h.GoesOn (h.tick limit) := by
  unfold Hold.tick
  cases hstate : h.state with
  | free => exact .inl rfl
  | copying => exact .inl rfl
  | opened =>
    dsimp only
    split
    · exact .inl rfl
    · exact .inr (.inr ⟨by rw [hstate]; decide, .inl hstate.symm, rfl, rfl, rfl⟩)
  | broken =>
    dsimp only
    split
    · exact .inr (.inr ⟨by rw [hstate]; decide, .inl hstate.symm, rfl, rfl, rfl⟩)
    · exact .inl rfl

theorem fillTick_goesOn (limit : BitVec 16) (x : Fill) : x.GoesOn (x.tick limit) := by
  unfold Fill.tick
  split
  next h => exact .inr ⟨by rw [h.1]; decide, rfl, rfl, rfl, rfl, rfl, rfl, rfl⟩
  next => exact .inl rfl

theorem windowTick_spec (x : Window) : x.tick.cfg = x.cfg ∧ x.tick.decoded = x.decoded := by
  unfold Window.tick
  split
  next hstate =>
    split
    · exact ⟨rfl, rfl⟩
    · exact ⟨rfl, by simp only [Window.decoded, hstate]⟩
  all_goals exact ⟨rfl, rfl⟩

theorem matched_spec (x : Window) : x.matched.cfg = x.cfg ∧ x.matched.decoded = x.decoded := by
  unfold Window.matched
  split <;> exact ⟨rfl, rfl⟩

theorem moves_requestSweep (w : WindowNo) (s : State) : Moves c s (requestSweep w s) := by
  unfold requestSweep
  split
  · exact ofQuiets (quiets_report _ s)
  · exact ofQuiets (quiets_neutral (fun _ => rfl) rfl)

theorem moves_requestSweeps (ws : List WindowNo) (s : State) : Moves c s (requestSweeps ws s) := by
  induction ws generalizing s with
  | nil => exact .refl
  | cons w ws ih => exact (moves_requestSweep w s).trans (ih _)

theorem moves_advanceTime (htick : c = .tick) (s : State) : Moves c s (advanceTime s) := by
  let s1 := { s with timeBase := { s.timeBase with value := s.timeBase.value + 1 } }
  let s2 := { s1 with holds := tableMap (fun _ (h : Hold) => h.tick (s.cfg h.window).holdLimit) s1.holds }
  let s3 := { s2 with fills := tableMap (fun _ (x : Fill) => x.tick (s.cfg x.window).fillLimit) s2.fills }
  let s4 := { s3 with windows := tableMap (fun _ (x : Window) => x.tick) s3.windows }
  have hvalue : Moves c s s1 := ofQuiets (quiets_neutral (fun _ => rfl) rfl)
  have hholds : Quiet False s1 s2 := .holds s1 _ fun i => by
    rw [getElem_tableMap]
    exact tick_goesOn _ _
  have hfills : Quiet False s2 s3 := .fills s2 _ fun f => by
    rw [getElem_tableMap]
    exact fillTick_goesOn _ _
  have hwindows : Quiet False s3 s4 := .windows s3 _ fun w => by
    rw [getElem_tableMap]
    obtain ⟨hcfg, hdecoded⟩ := windowTick_spec s3.windows[w]
    exact ⟨hcfg, fun h => hdecoded.trans h⟩
  exact hvalue.trans ((ofQuiets (hholds.one.trans (hfills.one.trans hwindows.one))).trans (Move.aged htick s4).one)

theorem moves_compareDeadlines (s : State) : Moves c s (compareDeadlines s) := by
  refine .trans (ofQuiets ?_) (moves_requestSweeps _ _)
  refine (quiets_drawn s).trans (Quiet.windows s.drawn _ fun w => ?_).one
  rw [getElem_tableMap]
  split
  · obtain ⟨hcfg, hdecoded⟩ := matched_spec s.windows[w]
    exact ⟨hcfg, fun h => hdecoded.trans h⟩
  · exact ⟨rfl, id⟩

/-! ### Management commands (chapter 10) -/

/-- A command that answers or refuses changes nothing. -/
theorem moves_onWindow {args : List Byte} {run : WindowNo → State → State × Verdict}
    (h : ∀ w : WindowNo, Moves c s (run w s).1) : Moves c s (onWindow args run s).1 := by
  unfold onWindow
  split
  · exact .refl
  · exact h _

theorem moves_runWriteWindow (args : List Byte) (s : State) : Moves c s (runWriteWindow args s).1 := by
  refine moves_onWindow fun w => ?_
  dsimp only
  split
  next => exact .refl
  next hoff =>
    split
    next => exact .refl
    next => exact (Move.configured s w _ (Bool.not_eq_true _ ▸ hoff)).one

/-- The adjustment of an enable keeps the flags of an entry. -/
theorem adjustBank_flags (c : WinConfig) (i : Nat) (e : DirEntry) :
    (adjustBank c i e).fresh = e.fresh ∧ (adjustBank c i e).stale = e.stale := by
  unfold adjustBank
  split <;> exact ⟨rfl, rfl⟩

theorem directoryOk_enabled (c : WinConfig) (init : Bool) (h : DirectoryOk s) :
    DirectoryOk { s with directory := enabledDirectory c init s.directory } := by
  obtain ⟨hwf, hapart⟩ := h
  unfold enabledDirectory
  split
  · exact ⟨filter_wf hwf, fun p hp => hapart p (List.mem_of_mem_filter hp)⟩
  · refine ⟨dirMap_wf hwf, fun p hp => ?_⟩
    obtain ⟨⟨i, e⟩, hold, rfl⟩ := List.mem_map.1 (List.mem_of_mem_filter hp)
    obtain ⟨hfresh, hstale⟩ := adjustBank_flags c i e
    dsimp only
    rw [hfresh, hstale]
    exact hapart (i, e) hold

theorem moves_putInService {w : WindowNo} (init : Bool) (hoff : s.windows[w].decoded = false) :
    Moves c s (putInService w init s) := by
  let s1 := { s with directory := enabledDirectory (s.cfg w) init s.directory }
  have hdirectory : Quiet False s s1 := .directory s _ fun h => directoryOk_enabled _ _ h
  refine (ofQuiets hdirectory.one).trans (.trans (Move.configured s1 w _ hoff).one (ofQuiets (quiets_recut s.windows _)))

theorem moves_runEnableWindow (args : List Byte) (s : State) : Moves c s (runEnableWindow args s).1 := by
  refine moves_onWindow fun w => ?_
  split
  next => exact .refl
  next hoff =>
    split
    next => exact .refl
    next => exact moves_putInService _ (Bool.not_eq_true _ ▸ hoff)

theorem moves_runDisableWindow (args : List Byte) (s : State) : Moves c s (runDisableWindow args s).1 := by
  refine moves_onWindow fun w => ?_
  have hbegun : Moves c s (beginDrain w s) := ofQuiets (quiets_setWindow rfl fun _ => rfl)
  dsimp only
  split
  next => exact .refl
  next =>
    dsimp only [accepted]
    split
    · exact hbegun.trans (ofQuiets (quiets_forceDrain w _))
    · exact hbegun.trans (moves_drainTest w _)
  next =>
    dsimp only [accepted]
    split
    · exact ofQuiets (quiets_forceDrain w s)
    · exact .refl

theorem moves_runWriteRecord (args : List Byte) (s : State) : Moves c s (runWriteRecord args s).1 := by
  refine moves_onWindow fun w => ?_
  dsimp only
  split
  next => exact .refl
  next =>
    split
    next => exact .refl
    next =>
      split
      next => exact .refl
      next =>
        split
        next => exact .refl
        next hflags =>
          split
          next => exact .refl
          next => exact ofQuiets (quiets_setDir _ _ fun _ => Bool.not_eq_true _ ▸ hflags)

theorem moves_runBreakHolds (args : List Byte) (s : State) : Moves c s (runBreakHolds args s).1 := by
  refine moves_onWindow fun w => ?_
  split
  next => exact .refl
  next =>
    split
    · exact ofQuiets ((quiets_drawn s).trans ((quiets_breakAll .management _ _).trans (quiets_drainTest w _)))
    · exact .refl

theorem moves_runReadEvents (args : List Byte) (s : State) : Moves c s (runReadEvents args s).1 := by
  unfold runReadEvents
  dsimp only
  split
  · refine (Move.events s (s.events.pop _) _ ?_ id fun _ => rfl).one
    rw [EventUnit.pop, List.length_drop]
    exact Nat.sub_le _ _
  · exact .refl

theorem moves_runClearCounters (args : List Byte) (s : State) : Moves c s (runClearCounters args s).1 := by
  unfold runClearCounters
  split
  · exact ofQuiets (quiets_neutral (fun _ => rfl) rfl)
  · exact moves_onWindow fun w => ofQuiets (quiets_neutral (fun _ => rfl) rfl)

theorem moves_runSetEventControl (args : List Byte) (s : State) : Moves c s (runSetEventControl args s).1 := by
  unfold runSetEventControl
  dsimp only
  split
  · exact .refl
  · split
    next hthreshold =>
      refine (Move.events s (s.events.withControl _) _ le_rfl (fun _ => ?_) fun _ => rfl).one
      exact hthreshold
    next => exact .refl

theorem moves_runSetTimebase (args : List Byte) (s : State) : Moves c s (runSetTimebase args s).1 := by
  unfold runSetTimebase
  split
  · exact .refl
  · split
    · exact ofQuiets (quiets_neutral (fun _ => rfl) rfl)
    · exact .refl

/-! ### Soft reset (R170) -/

theorem damageFills_writes (fs : List FillNo) (s : State) :
    damageFills fs s = { s with directory := (damageFills fs s).directory } := by
  induction fs generalizing s with
  | nil => rfl
  | cons f fs ih =>
    simp only [damageFills]
    rw [ih]
    split <;> rfl

theorem quiets_damageFills {d : Prop} (fs : List FillNo) (s : State) : Quiets d s (damageFills fs s) := by
  induction fs generalizing s with
  | nil => exact .refl
  | cons f fs ih =>
    simp only [damageFills]
    split
    · exact ih _
    · exact (quiets_markDamaged _ _).trans (ih _)

/-- After a soft reset no entry names a fill, and every one is RELEASED (R107). -/
theorem resetRelease_spec (s : State) (e : ParkEntry) :
    (e.resetRelease s).fill = none ∧ (e.resetRelease s).condition ≠ .parked := by
  unfold ParkEntry.resetRelease
  split
  next a hcondition => exact ⟨rfl, by rw [hcondition]; nofun⟩
  next => exact ⟨rfl, nofun⟩

theorem moves_softReset (s : State) : Moves c s (softReset s) := by
  let s1 := damageFills (tableAll (fun x : Fill => decide (x.state ≠ .free)) s.fills) s
  let s2 := { s1 with
    lanes := tableMap (fun m l => unbind s.copies m l) s.lanes
    slots := .replicate 8 .free, copies := [], pendingSweeps := 0, sweep := none, counters := .replicate 16 .zero }
  let s3 := { s2 with inFlight := s.inFlight.map InFlight.orphaned }
  let s4 := { s3 with events := s.events.softReset, alertLow := false }
  have hframe : s1 = { s with directory := s1.directory } := damageFills_writes _ s
  have hinFlight : s1.inFlight = s.inFlight := by
    have h := congrArg State.inFlight hframe
    exact h
  have hevents : s1.events = s.events := by
    have h := congrArg State.events hframe
    exact h
  have hlanes : s1.lanes = s.lanes := by
    have h := congrArg State.lanes hframe
    exact h
  have hdamaged : Moves c s s1 := ofQuiets (quiets_damageFills _ s)
  have hcleared : Moves c s1 s2 := ofQuiets (quiets_neutral (fun m => by
    rw [show s2.lanes = tableMap (fun m l => unbind s.copies m l) s.lanes from rfl, getElem_tableMap, unbind_reqs, hlanes]) rfl)
  have horphaned : Move c s2 s3 := .inFlight s2 _ (.inl (by
    rw [List.length_map, show s2.inFlight = s.inFlight from hinFlight]))
  have hcontrol : s3.events.control = s.events.control := by
    have h := congrArg EventUnit.control hevents
    exact h
  have hreset : Move c s3 s4 := by
    refine .events s3 _ _ (Nat.zero_le _) (fun h => ?_) fun h => ?_
    · obtain ⟨hlow, hhigh⟩ := h
      rw [hcontrol] at hlow hhigh
      exact ⟨hlow, hhigh⟩
    · obtain ⟨hlow, -⟩ := h
      rw [hcontrol] at hlow
      have hthreshold : s.events.control.threshold ≠ 0 := by omega
      simp [EventUnit.alertCondition, EventUnit.ageCondition, EventUnit.softReset, hthreshold]
  have htables : Move c s4 (clearTables (ParkEntry.resetRelease s) s4) := .resetTables s4 _ (resetRelease_spec s)
  refine hdamaged.trans (hcleared.trans (horphaned.one.trans (hreset.one.trans (htables.one.trans ?_))))
  have hsame : softReset s = recut s.windows (clearTables (ParkEntry.resetRelease s) s4) := by
    simp only [softReset, clearTables, s4, s3, s2]
    rw [show damageFills _ s = s1 from rfl, hframe]
  rw [hsame]
  exact ofQuiets (quiets_recut _ _)

/-! ### Frames (R160, R161) -/

theorem quiets_link {d : Prop} (l : Link) (s : State) : Quiets d s { s with link := l } :=
  quiets_neutral (fun _ => rfl) rfl

theorem moves_takeFrame {n : Nat} {taken : State → State} (h : ∀ s : State, Moves c s (taken s)) (s : State) :
    Moves c s (takeFrame n taken s) := by
  have hended : Moves c s (endFrame (zeros n) s) := ofQuiets (quiets_link _ s)
  unfold takeFrame
  split
  · split
    · exact hended.trans (h _)
    · exact hended
  · exact .refl

theorem moves_store (r : Response) (s : State) : Moves c s (store r s) := ofQuiets (quiets_link _ s)

theorem moves_commandFrame {code : Byte} {n : Nat} {run : List Byte → State → State × Verdict} {rest : List Byte}
    (h : commandFrame code n run rest s = .next t) (hrun : ∀ (args : List Byte) (s : State), Moves c s (run args s).1) :
    Moves c s t := by
  cases h
  refine moves_takeFrame (fun u => ?_) s
  unfold judge
  split
  · exact moves_store _ u
  · split
    · exact moves_store _ u
    · exact (moves_settle u).trans ((hrun _ _).trans (moves_store _ _))

theorem moves_takeFetch (rest : List Byte) (s : State) : Moves c s (takeFetch rest s) := by
  have hended : Moves c s (endFrame (fetchMiso s rest) s.drawn) :=
    ofQuiets ((quiets_drawn s).trans (quiets_link _ _))
  simp only [takeFetch]
  split
  · exact hended.trans (ofQuiets (quiets_link _ _))
  · exact hended

/-! ### Every command -/

theorem moves_answered (data : State → List Byte) (s : State) : Moves c s (answered (data s) s).1 := .refl

end

/-- What a command does is a chain of moves. -/
theorem moves_exec {c : Instr} {s t : State} (h : exec c s = .next t) : Moves c s t := by
  cases c with
  | requestArrival m addr body =>
    change execRequestArrival m addr body s = _ at h
    unfold execRequestArrival at h
    split at h
    · cases h
      split
      · exact .refl
      · exact (moves_settle s).trans (moves_acceptRequest m addr body _)
    · cases h
  | segmentOffer m =>
    cases h
    split
    · exact ofQuiets (quiets_offer (fun h => h.elim) m)
    · exact .refl
  | laneSegmentGrant => cases h; exact (moves_settle s).trans (moves_grantNextLane (.inl rfl) _)
  | copyRequestGrant => cases h; exact (moves_settle s).trans (moves_grantCopy (.inr (.inl rfl)) _)
  | parkReleaseGrant => cases h; exact (moves_settle s).trans (moves_grantRelease (.inr (.inr rfl)) _)
  | segmentResponse resp => exact (moves_settle s).trans (moves_respondSegment h)
  | copyResponse beats => exact (moves_settle s).trans (moves_respondCopy h)
  | parkReleaseResponse status => cases h; exact (moves_settle s).trans (moves_respondRelease status _)
  | strayResponse resp => cases h; exact .refl
  | responseDelivery => cases h; exact (moves_settle s).trans (moves_deliver _)
  | tick =>
    cases h
    split
    · exact .refl
    · split
      · exact (moves_settle s).trans ((moves_advanceTime rfl _).trans (moves_compareDeadlines _))
      · exact .refl
  | holdExpired i => cases h; exact ofQuiets (quiets_expireHold i s)
  | lingerExpiry i => cases h; exact ofQuiets (quiets_expireLinger i s)
  | fillExpiry f => cases h; exact ofQuiets (quiets_expireFill f s)
  | drainCountdownExpiry w => cases h; exact ofQuiets (quiets_expireDrain w s)
  | alertAgeExpiry =>
    cases h
    split
    · exact ofQuiets (Quiet.alerted s).one
    · exact .refl
  | sweepStart => cases h; exact ofQuiets (quiets_startSweep s)
  | sweepVisit => cases h; exact (moves_settle s).trans (ofQuiets (quiets_visitSweep _))
  | drainCompletion w => cases h; exact moves_drainTest w s
  | frameStart =>
    cases h
    split
    · exact .refl
    · exact ofQuiets (quiets_link _ s)
  | frameAbort bytes bits =>
    change execFrameAbort bytes bits s = _ at h
    unfold execFrameAbort at h
    split at h
    · cases h
      exact moves_takeFrame (fun u => ofQuiets ((quiets_drawn u).trans (quiets_link _ _))) s
    · cases h
  | unknownCommand code rest =>
    change execUnknownCommand code rest s = _ at h
    unfold execUnknownCommand at h
    split at h
    · cases h
    · cases h
      exact moves_takeFrame (moves_store _) s
  | identify rest => exact moves_commandFrame h fun _ _ => .refl
  | status rest => exact moves_commandFrame h fun _ _ => .refl
  | readWindow rest => exact moves_commandFrame h fun _ _ => moves_onWindow fun _ => .refl
  | writeWindow rest => exact moves_commandFrame h moves_runWriteWindow
  | enableWindow rest => exact moves_commandFrame h moves_runEnableWindow
  | disableWindow rest => exact moves_commandFrame h moves_runDisableWindow
  | readRecord rest =>
    refine moves_commandFrame h fun args u => moves_onWindow fun w => ?_
    dsimp only
    split <;> exact .refl
  | writeRecord rest => exact moves_commandFrame h moves_runWriteRecord
  | readHold rest =>
    refine moves_commandFrame h fun args u => ?_
    unfold runReadHold
    split <;> exact .refl
  | breakHolds rest => exact moves_commandFrame h moves_runBreakHolds
  | readEvents rest => exact moves_commandFrame h moves_runReadEvents
  | readCounters rest => exact moves_commandFrame h fun _ _ => moves_onWindow fun _ => .refl
  | clearCounters rest => exact moves_commandFrame h moves_runClearCounters
  | setTimebase rest => exact moves_commandFrame h moves_runSetTimebase
  | readTimebase rest => exact moves_commandFrame h fun _ _ => .refl
  | setEventControl rest => exact moves_commandFrame h moves_runSetEventControl
  | softReset rest => exact moves_commandFrame h fun _ u => moves_softReset u
  | fetch rest => cases h; exact moves_takeFrame (moves_takeFetch rest) s
  | pinReset => cases h; exact (Move.pinReset s).one
  | resetRelease => cases h; exact ofQuiets (quiets_neutral (fun _ => rfl) rfl)

/-- A step idles on an empty queue, or is a chain of moves of the command at its front. -/
theorem moves_step {s t : State} (h : step s = .next t) : t = s ∨ ∃ c cs, s.pending = c :: cs ∧ Moves c s t := by
  unfold step at h
  split at h
  next => cases h; exact .inl rfl
  next c cs hqueue =>
    have hpopped : Moves c s { s with pending := cs } := ofQuiets (quiets_neutral (fun _ => rfl) rfl)
    exact .inr ⟨c, cs, hqueue, hpopped.trans (moves_exec h)⟩

/-- What every move keeps, every step keeps. -/
theorem step_keeps {P : State → Prop} (hkeep : ∀ (c : Instr) (s t : State), Move c s t → P s → P t) {s t : State}
    (hstep : step s = .next t) (h : P s) : P t := by
  obtain rfl | ⟨c, cs, -, hmoves⟩ := moves_step hstep
  · exact h
  · clear hstep
    induction hmoves with
    | refl => exact h
    | tail _ hmove ih => exact hkeep c _ _ hmove ih

end Sys2Proof.Machine
end

section
/-! SUPPORT. What every move keeps, and with it every step: capacities, the directory's form, tidy tables, the event
control, ALERT_N's rule, and the books of the Park Queue. -/

namespace Sys2Proof.Machine

open Sys2Proof.Statements

section
variable {d : Prop} {c : Instr} {s t : State}

/-! ### The Event Unit -/

theorem append_control (u : EventUnit) (rs : List EventRecord) : (u.append rs).control = u.control := rfl

/-- A report leaves the event control as it was (R150). -/
theorem enqueue_control (u : EventUnit) (now : BitVec 32) (r : Report) : (u.enqueue now r).control = u.control := by
  unfold EventUnit.enqueue
  split
  · rfl
  · dsimp only
    split
    · split <;> rfl
    · split <;> rfl

/-- The record a report merges into is the newest of the queue (R151). -/
theorem mergeTarget_queue {u : EventUnit} {r : Report} {e : EventRecord} (h : u.mergeTarget r = some e) :
    u.queue ≠ [] := by
  unfold EventUnit.mergeTarget at h
  split at h
  · rintro hqueue
    rw [hqueue] at h
    cases h
  · cases h

/-- A report never makes the queue longer than its 64 places (R152). -/
theorem enqueue_length {u : EventUnit} (now : BitVec 32) (r : Report) (h : u.queue.length ≤ Config.eventCapacity) :
    (u.enqueue now r).queue.length ≤ Config.eventCapacity := by
  unfold EventUnit.enqueue
  split
  next e hmerge =>
    have hpos := List.length_pos_iff.2 (mergeTarget_queue hmerge)
    simp only [List.length_append, List.length_dropLast, List.length_singleton]
    omega
  next =>
    dsimp only
    split
    · split
      · simp only [EventUnit.append, List.length_append, List.length_singleton]
        omega
      · exact h
    · split
      · simp only [EventUnit.append, List.length_append, List.length_cons, List.length_nil]
        omega
      · exact h

theorem report_control (r : Report) (s : State) : (report r s).events.control = s.events.control := by
  unfold report
  split
  · exact enqueue_control _ _ _
  · rfl

theorem report_queue_length (r : Report) (h : s.events.queue.length ≤ Config.eventCapacity) :
    (report r s).events.queue.length ≤ Config.eventCapacity := by
  unfold report
  split
  · exact enqueue_length _ _ h
  · exact h

/-! ### Capacities -/

theorem Quiet.withinCapacity (hmove : Quiet d s t) (h : WithinCapacity s) : WithinCapacity t := by
  obtain ⟨hlane, hflight, hpark, hevents⟩ := h
  cases hmove with
  | neutral hlanes hrest =>
    have hl := hlanes
    rw [hrest]
    exact ⟨fun m => (hl m).elim (fun h => h.trans (hlane m)) id, hflight, hpark, hevents⟩
  | reported r =>
    have hqueue := report_queue_length r hevents
    rw [report_writes]
    exact ⟨hlane, hflight, hpark, hqueue⟩
  | activated => exact ⟨hlane, hflight, (List.length_map _).trans_le hpark, hevents⟩
  | parked _ f es hwaits hroom => exact ⟨hlane, hflight, (List.length_append).trans_le hroom, hevents⟩
  | _ => exact ⟨hlane, hflight, hpark, hevents⟩

theorem Move.withinCapacity (hmove : Move c s t) (h : WithinCapacity s) : WithinCapacity t := by
  have ⟨hlane, hflight, hpark, hevents⟩ := h
  cases hmove with
  | quiet hquiet => exact hquiet.withinCapacity h
  | inFlight _ l hl => exact ⟨hlane, hl.elim (fun hle => hle.trans hflight) And.right, hpark, hevents⟩
  | unparked _ pre post e hqueue =>
    refine ⟨hlane, hflight, ?_, hevents⟩
    rw [hqueue] at hpark
    simp only [List.length_append, List.length_cons] at hpark ⊢
    omega
  | events _ u a hqueue => exact ⟨hlane, hflight, hpark, hqueue.trans hevents⟩
  | aged =>
    refine ⟨hlane, hflight, hpark, ?_⟩
    simp only [EventUnit.tick]
    split <;> exact hevents
  | resetTables => exact ⟨hlane, hflight, (List.length_map _).trans_le hpark, hevents⟩
  | pinReset => exact resetIsSafe.1
  | _ => exact ⟨hlane, hflight, hpark, hevents⟩

/-! ### The Record Directory -/

theorem Quiet.directoryOk (hmove : Quiet d s t) (h : DirectoryOk s) : DirectoryOk t := by
  cases hmove with
  | neutral hlanes hrest => rw [hrest]; exact h
  | reported r => rw [report_writes]; exact h
  | directory _ dir hdir => exact hdir h
  | _ => exact h

theorem Move.directoryOk (hmove : Move c s t) (h : DirectoryOk s) : DirectoryOk t := by
  cases hmove with
  | quiet hquiet => exact hquiet.directoryOk h
  | pinReset => exact resetIsSafe.2.1
  | _ => exact h

/-! ### Tidy tables -/

theorem tablesTidy_setHold {i : HoldNo} {x : Hold} (h : TablesTidy s) (hx : x.state ≠ .free) : TablesTidy (s.setHold i x) := by
  refine ⟨fun j hj => ?_, h.2⟩
  rw [setHold_holds, getElem_set_fin] at hj ⊢
  split at hj
  next => exact absurd hj hx
  next hij => rw [if_neg hij]; exact h.1 j hj

theorem tablesTidy_setFill {f : FillNo} {x : Fill} (h : TablesTidy s) (hx : x.state = .free → x = .cleared x.generation) :
    TablesTidy (s.setFill f x) := by
  refine ⟨h.1, fun g hg => ?_⟩
  rw [setFill_fills, getElem_set_fin] at hg ⊢
  split at hg
  next hfg => rw [if_pos hfg]; exact hx hg
  next hfg => rw [if_neg hfg]; exact h.2 g hg

theorem Quiet.tablesTidy (hmove : Quiet d s t) (h : TablesTidy s) : TablesTidy t := by
  cases hmove with
  | neutral hlanes hrest => rw [hrest]; exact h
  | reported r => rw [report_writes]; exact h
  | holds _ hs hon =>
    refine ⟨fun i hi => ?_, h.2⟩
    obtain hsame | hcleared | ⟨hheld, hstate, -⟩ := hon i
    · rw [hsame] at hi ⊢
      exact h.1 i hi
    · exact hcleared
    · rcases hstate with hstate | hstate
      · exact absurd (hstate.symm.trans hi) hheld
      · rw [hstate] at hi; cases hi
  | copying _ i x hstate => exact tablesTidy_setHold h (by rw [hstate]; decide)
  | fills _ fs hon =>
    refine ⟨h.1, fun f hf => ?_⟩
    obtain hsame | ⟨hopen, hstate, -⟩ := hon f
    · rw [hsame] at hf ⊢
      exact h.2 f hf
    · exact absurd (hstate.symm.trans hf) hopen
  | fillFreed => exact tablesTidy_setFill h fun _ => rfl
  | activated => exact tablesTidy_setFill h nofun
  | fillOpened _ f x hfree hstate => exact tablesTidy_setFill h fun hx => by rw [hstate] at hx; cases hx
  | parked _ f es hwaits => exact tablesTidy_setFill h fun hx => by rw [hwaits] at hx; cases hx
  | _ => exact h

theorem refersTo_iff {ref : FillRef} :
    refersTo ref s = true ↔ s.fills[ref.index].state ≠ .free ∧ s.fills[ref.index].generation = ref.generation := by
  simp only [refersTo, Bool.and_eq_true, decide_eq_true_eq]

theorem tablesTidy_unparked (ref : Option FillRef) (h : TablesTidy s) : TablesTidy { s with fills := fillsUnparked ref s } := by
  cases ref with
  | none => exact h
  | some f =>
    simp only [fillsUnparked]
    split
    next hrefers =>
      obtain ⟨hopen, -⟩ := refersTo_iff.1 hrefers
      exact tablesTidy_setFill h fun hx => absurd hx hopen
    next => exact h

theorem Move.tablesTidy (hmove : Move c s t) (h : TablesTidy s) : TablesTidy t := by
  cases hmove with
  | quiet hquiet => exact hquiet.tablesTidy h
  | copied => exact tablesTidy_setHold h nofun
  | opened _ i x hstate => exact tablesTidy_setHold h (by rw [hstate]; decide)
  | fillOpened _ f x hfree hstate => exact tablesTidy_setFill h fun hx => by rw [hstate] at hx; cases hx
  | unparked _ pre post e hqueue => exact tablesTidy_unparked e.fill h
  | resetTables =>
    refine ⟨fun i _ => getElem_replicate_fin _ i, fun f _ => ?_⟩
    rw [show (clearTables _ s).fills = tableMap (fun _ x => Fill.cleared x.generation) s.fills from rfl, getElem_tableMap]
    rfl
  | pinReset => exact resetIsSafe.2.2.1
  | _ => exact h

/-! ### The event control -/

theorem Quiet.control_eq (hmove : Quiet d s t) : t.events.control = s.events.control := by
  cases hmove with
  | neutral hlanes hrest => rw [hrest]
  | reported r => exact report_control r s
  | _ => rfl

theorem tick_control (u : EventUnit) : u.tick.control = u.control := by
  unfold EventUnit.tick
  split <;> rfl

theorem ControlOk.congr (hcontrol : t.events.control = s.events.control) (h : ControlOk s) : ControlOk t := by
  unfold ControlOk
  rw [hcontrol]
  exact h

theorem Move.controlOk (hmove : Move c s t) (h : ControlOk s) : ControlOk t := by
  cases hmove with
  | quiet hquiet => exact h.congr hquiet.control_eq
  | events _ u a hqueue hcontrol => exact hcontrol h
  | aged => exact h.congr (tick_control _)
  | pinReset => exact resetIsSafe.2.2.2.1
  | _ => exact h

/-! ### ALERT_N (R154) -/

theorem Quiet.alertLow_eq (hmove : Quiet d s t) :
    t.alertLow = t.events.alertCondition ∨ (t.alertLow = s.alertLow ∧ t.events = s.events) := by
  cases hmove with
  | neutral hlanes hrest => rw [hrest]; exact .inr ⟨rfl, rfl⟩
  | reported r =>
    unfold report
    split
    · exact .inl rfl
    · exact .inr ⟨rfl, rfl⟩
  | alerted => exact .inl rfl
  | _ => exact .inr ⟨rfl, rfl⟩

theorem Quiet.alertFollows (hmove : Quiet d s t) (h : AlertFollows s) : AlertFollows t := by
  obtain hdriven | ⟨hlow, hevents⟩ := hmove.alertLow_eq
  · exact hdriven
  · unfold AlertFollows
    rw [hlow, hevents]
    exact h

/-- Every move but the running of the age countdown leaves ALERT_N as its conditions say. -/
theorem Move.alertFollows (hmove : Move c s t) (hc : c ≠ .tick) (h : ControlOk s ∧ AlertFollows s) : ControlOk t ∧ AlertFollows t := by
  refine ⟨hmove.controlOk h.1, ?_⟩
  cases hmove with
  | quiet hquiet => exact hquiet.alertFollows h.2
  | events _ u a hqueue hcontrol halert => exact halert h.1
  | aged htick => exact absurd htick hc
  | pinReset => exact resetIsSafe.2.2.2.2.1
  | _ => exact h.2

/-- ALERT_N stands as its conditions say, or high where a tick has brought the age countdown to 0 (log 4). -/
def AlertMayWait (s : State) : Prop := AlertFollows s ∨ (s.alertLow = false ∧ s.events.ageCondition = true)

theorem ageCondition_iff (u : EventUnit) :
    u.ageCondition = true ↔ u.control.latency ≠ 0 ∧ u.queue ≠ [] ∧ u.age = 0 := by
  simp only [EventUnit.ageCondition, Bool.and_eq_true, decide_eq_true_eq, Bool.not_eq_true', List.isEmpty_eq_false_iff, and_assoc]

theorem alertCondition_iff (u : EventUnit) :
    u.alertCondition = true ↔ u.control.threshold ≤ u.queue.length ∨ u.ageCondition = true := by
  simp only [EventUnit.alertCondition, Bool.or_eq_true, decide_eq_true_eq]

/-- One tick keeps the age condition. -/
theorem tick_ageCondition {u : EventUnit} (h : u.ageCondition = true) : u.tick.ageCondition = true := by
  obtain ⟨hlatency, hqueue, hage⟩ := (ageCondition_iff u).1 h
  have hrun : u.control.latency ≠ 0 ∧ u.queue.isEmpty = false := ⟨hlatency, List.isEmpty_eq_false_iff.2 hqueue⟩
  simp only [EventUnit.tick, if_pos hrun]
  refine (ageCondition_iff _).2 ⟨hlatency, hqueue, ?_⟩
  simp only [countDown, hage, if_true]

theorem tick_queue (u : EventUnit) : u.tick.queue = u.queue := by
  unfold EventUnit.tick
  split <;> rfl

/-- One tick makes the alert condition true by the age countdown alone, and never false. -/
theorem tick_alertCondition (u : EventUnit) :
    u.tick.alertCondition = u.alertCondition ∨ (u.alertCondition = false ∧ u.tick.ageCondition = true) := by
  cases hbefore : u.alertCondition with
  | true =>
    left
    rcases (alertCondition_iff u).1 hbefore with hthreshold | hage
    · exact (alertCondition_iff _).2 (.inl (by rw [tick_control, tick_queue]; exact hthreshold))
    · exact (alertCondition_iff _).2 (.inr (tick_ageCondition hage))
  | false =>
    cases hafter : u.tick.alertCondition with
    | false => exact .inl rfl
    | true =>
      right
      refine ⟨rfl, ((alertCondition_iff _).1 hafter).resolve_left fun hthreshold => ?_⟩
      rw [tick_control, tick_queue] at hthreshold
      rw [(alertCondition_iff u).2 (.inl hthreshold)] at hbefore
      cases hbefore

theorem Move.alertMayWait (hmove : Move c s t) (h : ControlOk s ∧ AlertMayWait s) : ControlOk t ∧ AlertMayWait t := by
  refine ⟨hmove.controlOk h.1, ?_⟩
  cases hmove with
  | quiet hquiet =>
    obtain hdriven | ⟨hlow, hevents⟩ := hquiet.alertLow_eq
    · exact .inl hdriven
    · unfold AlertMayWait AlertFollows
      rw [hlow, hevents]
      exact h.2
  | events _ u a hqueue hcontrol halert => exact .inl (halert h.1)
  | aged =>
    rcases h.2 with hfollows | ⟨hhigh, hage⟩
    · rcases tick_alertCondition s.events with hsame | ⟨hbefore, hafter⟩
      · exact .inl (hfollows.trans hsame.symm)
      · exact .inr ⟨hfollows.trans hbefore, hafter⟩
    · exact .inr ⟨hhigh, tick_ageCondition hage⟩
  | pinReset => exact .inl resetIsSafe.2.2.2.2.1
  | _ => exact h.2

end

end Sys2Proof.Machine
end
section
/-! SUPPORT. The statements O57 and O33. -/

open Sys2Proof.Machine

/-- Settles O57: each kind of fact is kept by every move. -/
theorem tablesKept : Obligations.TablesKept := by
  intro s t hstep
  exact ⟨step_keeps (fun _ _ _ => Move.withinCapacity) hstep, step_keeps (fun _ _ _ => Move.directoryOk) hstep,
    step_keeps (fun _ _ _ => Move.tablesTidy) hstep, step_keeps (fun _ _ _ => Move.controlOk) hstep⟩

/-- Settles O33: only the running of the age countdown can part ALERT_N from its conditions. -/
theorem alertFollowsItsConditions : Obligations.AlertFollowsItsConditions := by
  refine ⟨fun s t c cs hcontrol hfollows hqueue hstep => ⟨fun hc => ?_, fun hparted => ?_⟩, fun s => ?_, ?_⟩
  · obtain rfl | ⟨c', cs', hqueue', hmoves⟩ := moves_step hstep
    · exact hfollows
    · have hfront : c :: cs = c' :: cs' := hqueue.symm.trans hqueue'
      cases hfront
      have hkept : ControlOk t ∧ AlertFollows t := by
        clear hstep
        induction hmoves with
        | refl => exact ⟨hcontrol, hfollows⟩
        | tail _ hmove ih => exact hmove.alertFollows hc ih
      exact hkept.2
  · obtain ⟨-, hwaits⟩ := step_keeps (fun _ _ _ => Move.alertMayWait) hstep ⟨hcontrol, .inl hfollows⟩
    obtain ⟨hhigh, hage⟩ := hwaits.resolve_left hparted
    exact ⟨hhigh, (ageCondition_iff _).1 hage⟩
  · unfold AlertFollows
    rw [Bool.eq_iff_iff, alertCondition_iff, ageCondition_iff]
  · intro s hlatency hqueue hage
    have hcondition : s.events.ageCondition = true := (ageCondition_iff _).2 ⟨hlatency, hqueue, hage⟩
    change execAlertAgeExpiry s = _
    simp only [execAlertAgeExpiry, hcondition, if_true, driveAlert]
    rw [(alertCondition_iff _).2 (.inr hcondition)]
end

section
/-! SUPPORT. The books of the Park Queue, kept by every move (R76, R99, R101, R107), and what a lane grant needs to know of
the holds in force and of the words a soft reset left (R21). -/

namespace Sys2Proof.Machine

open Sys2Proof.Statements

section
variable {d : Prop} {c : Instr} {s t : State}

/-! ### The books -/

/-- The books speak of the Park Queue and of the places, state and count of every fill. -/
theorem ParkAccounted.congr (hpark : t.park = s.park)
    (hfills : ∀ f : FillNo, t.fills[f].state = s.fills[f].state ∧ t.fills[f].owner = s.fills[f].owner
      ∧ t.fills[f].window = s.fills[f].window ∧ t.fills[f].record = s.fills[f].record
      ∧ t.fills[f].generation = s.fills[f].generation ∧ t.fills[f].parked = s.fills[f].parked)
    (h : ParkAccounted s) : ParkAccounted t := by
  obtain ⟨hnamed, hunnamed, hcount⟩ := h
  refine ⟨fun e he ref href => ?_, by rw [hpark]; exact hunnamed, fun f hf => ?_⟩
  · rw [hpark] at he
    obtain ⟨hstate, howner, hwindow, hrecord, hgeneration, -⟩ := hfills ref.index
    rw [refersTo_iff, hstate, howner, hwindow, hrecord, hgeneration, ← refersTo_iff]
    exact hnamed e he ref href
  · obtain ⟨hstate, -, -, -, hgeneration, hparked⟩ := hfills f
    rw [hstate] at hf
    rw [hparked, hcount f hf, parkedOf, parkedOf, hpark, fillRef, fillRef, hgeneration]

/-- An entry that names a fill names it as it now stands. -/
theorem ParkAccounted.ref_eq (h : ParkAccounted s) {e : ParkEntry} (he : e ∈ s.park) {ref : FillRef}
    (href : e.fill = some ref) : ref = fillRef s ref.index := by
  obtain ⟨hrefers, -⟩ := h.1 e he ref href
  obtain ⟨-, hgeneration⟩ := refersTo_iff.1 hrefers
  rw [fillRef, hgeneration]

/-- A fill that counts no parked word is named by no entry. -/
theorem ParkAccounted.unnamed (h : ParkAccounted s) {f : FillNo} (hf : s.fills[f].state ≠ .free → s.fills[f].parked = 0)
    {e : ParkEntry} (he : e ∈ s.park) {ref : FillRef} (href : e.fill = some ref) : ref.index ≠ f := by
  rintro rfl
  obtain ⟨hrefers, -⟩ := h.1 e he ref href
  obtain ⟨hopen, -⟩ := refersTo_iff.1 hrefers
  have hempty := (h.2.2 ref.index hopen).symm.trans (hf hopen)
  have hmem : e ∈ parkedOf s ref.index :=
    List.mem_filter.2 ⟨he, decide_eq_true (by rw [← h.ref_eq he href]; exact href)⟩
  rw [List.length_eq_zero_iff.1 hempty] at hmem
  cases hmem

/-- A fill entry that no parked word names may change, as long as it counts none. -/
theorem ParkAccounted.setFill (h : ParkAccounted s) {f : FillNo} {x : Fill}
    (hf : s.fills[f].state ≠ .free → s.fills[f].parked = 0) (hx : x.state ≠ .free → x.parked = 0) :
    ParkAccounted (s.setFill f x) := by
  have hother {e : ParkEntry} (he : e ∈ s.park) {ref : FillRef} (href : e.fill = some ref) :
      (s.fills.set f x)[ref.index] = s.fills[ref.index] :=
    getElem_set_other _ _ _ _ fun hfr => h.unnamed hf he href hfr.symm
  refine ⟨fun e he ref href => ?_, h.2.1, fun g hg => ?_⟩
  · rw [refersTo_iff, setFill_fills, hother he href, ← refersTo_iff]
    exact h.1 e he ref href
  · by_cases hfg : f = g
    · subst hfg
      have hnone : parkedOf (s.setFill f x) f = [] := by
        refine List.filter_eq_nil_iff.2 fun e he => ?_
        rw [decide_eq_true_eq]
        exact fun href => h.unnamed hf he href rfl
      rw [setFill_fills, getElem_set_same] at hg ⊢
      rw [hnone]
      exact hx hg
    · have hsame : (s.setFill f x).fills[g] = s.fills[g] := getElem_set_other _ _ _ _ hfg
      rw [hsame] at hg ⊢
      rw [h.2.2 g hg, parkedOf, parkedOf, fillRef, fillRef, hsame]
      rfl

theorem releaseFor_fill (ref : FillRef) (c : WinConfig) (target : Option Bank) (e : ParkEntry) :
    (e.releaseFor ref c target).fill = e.fill ∧ (e.releaseFor ref c target).window = e.window
      ∧ (e.releaseFor ref c target).record = e.record ∧ (e.releaseFor ref c target).master = e.master := by
  unfold ParkEntry.releaseFor
  split
  · split <;> exact ⟨rfl, rfl, rfl, rfl⟩
  · exact ⟨rfl, rfl, rfl, rfl⟩

/-- The words of a fill that becomes ACTIVE are PARKED no more. -/
theorem releaseFor_condition {ref : FillRef} {c : WinConfig} {target : Option Bank} {e : ParkEntry} (h : e.fill = some ref) :
    (e.releaseFor ref c target).condition ≠ .parked := by
  unfold ParkEntry.releaseFor
  rw [if_pos h]
  split
  next => nofun
  next a hreleased => rw [hreleased]; nofun

theorem releaseFor_other {ref : FillRef} {c : WinConfig} {target : Option Bank} {e : ParkEntry} (h : e.fill ≠ some ref) :
    e.releaseFor ref c target = e := by
  unfold ParkEntry.releaseFor
  rw [if_neg h]

theorem ParkAccounted.activated (h : ParkAccounted s) {f : FillNo} {c : WinConfig} {target : Option Bank} {x : Fill}
    (hopen : s.fills[f].state ≠ .free) (hstate : x.state = .active) (howner : x.owner = s.fills[f].owner)
    (hwindow : x.window = s.fills[f].window) (hrecord : x.record = s.fills[f].record)
    (hgeneration : x.generation = s.fills[f].generation) (hparked : x.parked = s.fills[f].parked) :
    ParkAccounted { s with
      fills := s.fills.set f x, park := s.park.map (ParkEntry.releaseFor (fillRef s f) c target) } := by
  refine ⟨fun e' he' ref href => ?_, fun e' he' hnone => ?_, fun g hg => ?_⟩
  · obtain ⟨e, he, rfl⟩ := List.mem_map.1 he'
    obtain ⟨hfill, hw, hr, hm⟩ := releaseFor_fill (fillRef s f) c target e
    rw [hfill] at href
    obtain ⟨hrefers, hew, her, hem, hcond⟩ := h.1 e he ref href
    rw [hw, hr, hm]
    by_cases hf : f = ref.index
    · subst hf
      have hreleased := releaseFor_condition (c := c) (target := target) (href.trans (congrArg some (h.ref_eq he href)))
      obtain ⟨-, hgen⟩ := refersTo_iff.1 hrefers
      rw [refersTo_iff]
      simp only [getElem_set_same, hstate, hwindow, hrecord, howner, hgeneration]
      exact ⟨⟨by decide, hgen⟩, hew, her, hem, fun hp => absurd hp hreleased, nofun⟩
    · have hother : e.fill ≠ some (fillRef s f) := by
        rw [href]
        rintro heq
        cases heq
        exact hf rfl
      rw [releaseFor_other hother, refersTo_iff]
      simp only [getElem_set_other _ _ _ _ hf]
      rw [← refersTo_iff]
      exact ⟨hrefers, hew, her, hem, hcond⟩
  · obtain ⟨e, he, rfl⟩ := List.mem_map.1 he'
    rw [(releaseFor_fill _ _ _ e).1] at hnone
    rw [releaseFor_other (by rw [hnone]; nofun)]
    exact h.2.1 e he hnone
  · have hsame : (s.fills.set f x)[g].generation = s.fills[g].generation ∧ (s.fills.set f x)[g].parked = s.fills[g].parked
        ∧ s.fills[g].state ≠ .free := by
      by_cases hf : f = g
      · subst hf
        rw [getElem_set_same]
        exact ⟨hgeneration, hparked, hopen⟩
      · simp only [getElem_set_other _ _ _ _ hf] at hg ⊢
        exact ⟨trivial, trivial, hg⟩
    obtain ⟨hgen, hcount, hg⟩ := hsame
    simp only [parkedOf, fillRef, hgen, hcount, List.filter_map, List.length_map]
    rw [h.2.2 g hg, parkedOf, fillRef]
    congr 1
    refine List.filter_congr fun e _ => ?_
    simp only [Function.comp_apply, (releaseFor_fill _ _ _ e).1]

theorem ParkAccounted.parked (h : ParkAccounted s) {f : FillNo} {es : List ParkEntry} (hwaits : s.fills[f].state = .waiting)
    (hentries : ∀ e ∈ es, e.fill = some (fillRef s f) ∧ e.window = s.fills[f].window ∧ e.record = s.fills[f].record
      ∧ e.master = s.fills[f].owner ∧ e.condition = .parked) :
    ParkAccounted { s with
      fills := s.fills.set f { s.fills[f] with parked := s.fills[f].parked + es.length }, park := s.park ++ es } := by
  have hsame (g : FillNo) : (s.fills.set f { s.fills[f] with parked := s.fills[f].parked + es.length })[g]
      = { s.fills[g] with parked := s.fills[g].parked + if f = g then es.length else 0 } := by
    rw [getElem_set_fin]
    split
    next hfg => subst hfg; rfl
    next => rfl
  refine ⟨fun e he ref href => ?_, fun e he hnone => ?_, fun g hg => ?_⟩
  · rw [refersTo_iff]
    simp only [hsame]
    rw [← refersTo_iff]
    rcases List.mem_append.1 he with hold | hnew
    · exact h.1 e hold ref href
    · obtain ⟨hfill, hw, hr, hm, hcond⟩ := hentries e hnew
      have hopen : s.fills[f].state ≠ .free := by rw [hwaits]; decide
      have hrefs := hfill.symm.trans href
      cases hrefs
      exact ⟨refersTo_iff.2 ⟨hopen, rfl⟩, hw, hr, hm,
        fun _ => hwaits, fun _ => hcond⟩
  · rcases List.mem_append.1 he with hold | hnew
    · exact h.2.1 e hold hnone
    · rw [(hentries e hnew).1] at hnone
      cases hnone
  · simp only [hsame] at hg ⊢
    have hcount := h.2.2 g hg
    simp only [parkedOf, fillRef, hsame, List.filter_append, List.length_append]
    rw [hcount, parkedOf, fillRef]
    congr 1
    split
    next hfg =>
      subst hfg
      exact congrArg List.length (List.filter_eq_self.2 fun e he => decide_eq_true (hentries e he).1).symm
    next hfg =>
      rw [List.filter_eq_nil_iff.2 fun e he => ?_]
      · rfl
      · rw [decide_eq_true_eq, (hentries e he).1]
        rintro heq
        cases heq
        exact hfg rfl

theorem Quiet.parkAccounted (hmove : Quiet d s t) (h : ParkAccounted s) : ParkAccounted t := by
  cases hmove with
  | neutral hlanes hrest => rw [hrest]; exact h
  | reported r => rw [report_writes]; exact h
  | fills _ fs hon =>
    refine ParkAccounted.congr (s := s) rfl (fun f => ?_) h
    obtain hsame | ⟨-, hstate, howner, hwindow, hrecord, hgeneration, -, hparked⟩ := hon f
    · rw [show ({ s with fills := fs } : State).fills[f] = s.fills[f] from hsame]
      exact ⟨rfl, rfl, rfl, rfl, rfl, rfl⟩
    · exact ⟨hstate, howner, hwindow, hrecord, hgeneration, hparked⟩
  | fillFreed _ f hopen hparked => exact h.setFill (fun _ => hparked) fun _ => rfl
  | activated _ f target hwaits =>
    exact h.activated (by rw [hwaits]; decide) rfl rfl rfl rfl rfl rfl
  | fillOpened _ f x hfree hstate hparked => exact h.setFill (fun hf => absurd hfree hf) fun _ => hparked
  | parked _ f es hwaits hroom hentries => exact h.parked hwaits hentries
  | _ => exact h

theorem ParkAccounted.of_mem (h : ParkAccounted s) {l : List ParkEntry} (hsub : ∀ e ∈ l, e ∈ s.park) :
    (∀ e ∈ l, ∀ ref : FillRef, e.fill = some ref → refersTo ref s = true
      ∧ e.window = s.fills[ref.index].window ∧ e.record = s.fills[ref.index].record
      ∧ e.master = s.fills[ref.index].owner ∧ (e.condition = .parked ↔ s.fills[ref.index].state = .waiting))
    ∧ (∀ e ∈ l, e.fill = none → e.condition ≠ .parked) :=
  ⟨fun e he => h.1 e (hsub e he), fun e he => h.2.1 e (hsub e he)⟩

theorem ParkAccounted.unparked (h : ParkAccounted s) {pre post : List ParkEntry} {e : ParkEntry}
    (hqueue : s.park = pre ++ e :: post) :
    ParkAccounted { s with park := pre ++ post, fills := fillsUnparked e.fill s } := by
  have hmem : e ∈ s.park := by simp [hqueue]
  have hsub : ∀ x ∈ pre ++ post, x ∈ s.park := fun x hx => by
    rw [hqueue]
    rcases List.mem_append.1 hx with hpre | hpost
    · exact List.mem_append_left _ hpre
    · exact List.mem_append_right _ (.tail _ hpost)
  obtain ⟨hnamed, hunnamed⟩ := h.of_mem hsub
  have hcount (p : ParkEntry → Bool) : (s.park.filter p).length = ((pre ++ post).filter p).length + if p e then 1 else 0 := by
    rw [hqueue, List.filter_append, List.filter_append, List.filter_cons]
    simp only [List.length_append]
    split
    · rw [List.length_cons]
      omega
    · rfl
  cases hfill : e.fill with
  | none =>
    refine ⟨hnamed, hunnamed, fun g hg => ?_⟩
    have hbooks := h.2.2 g hg
    rw [parkedOf, hcount, hfill] at hbooks
    exact hbooks
  | some ref =>
    obtain ⟨hrefers, -⟩ := h.1 e hmem ref hfill
    have href := h.ref_eq hmem hfill
    have hsame (g : FillNo) : (fillsUnparked (some ref) s)[g]
        = { s.fills[g] with parked := s.fills[g].parked - if ref.index = g then 1 else 0 } := by
      simp only [fillsUnparked, if_pos hrefers]
      rw [getElem_set_fin]
      split
      next hfg => subst hfg; rfl
      next => rfl
    refine ⟨fun x hx r hr => ?_, hunnamed, fun g hg => ?_⟩
    · rw [refersTo_iff]
      simp only [hsame]
      rw [← refersTo_iff]
      exact hnamed x hx r hr
    · simp only [hsame] at hg ⊢
      have hbooks := h.2.2 g hg
      rw [parkedOf, hcount, hfill] at hbooks
      simp only [parkedOf, fillRef, hsame]
      rw [hbooks]
      by_cases hfg : ref.index = g
      · subst hfg
        rw [if_pos rfl, if_pos (decide_eq_true (congrArg some href))]
        rfl
      · rw [if_neg hfg, if_neg]
        · rfl
        · rw [decide_eq_true_eq]
          rintro heq
          cases heq
          exact hfg rfl

theorem Move.parkAccounted (hmove : Move c s t) (h : ParkAccounted s) : ParkAccounted t := by
  cases hmove with
  | quiet hquiet => exact hquiet.parkAccounted h
  | fillOpened _ f x hfree hstate hparked => exact h.setFill (fun hf => absurd hfree hf) fun _ => hparked
  | unparked _ pre post e hqueue => exact h.unparked hqueue
  | resetTables _ release hrelease =>
    refine ⟨fun e he ref href => ?_, fun e he _ => ?_, fun f hf => ?_⟩
    · obtain ⟨e', -, rfl⟩ := List.mem_map.1 he
      rw [(hrelease e').1] at href
      cases href
    · obtain ⟨e', -, rfl⟩ := List.mem_map.1 he
      exact (hrelease e').2
    · rw [show (clearTables release s).fills = tableMap (fun _ x => Fill.cleared x.generation) s.fills from rfl,
        getElem_tableMap] at hf
      exact absurd rfl hf
  | pinReset => exact resetIsSafe.2.2.2.2.2.2.1
  | _ => exact h

/-! ### Words left by a soft reset (R21, R107) -/

/-- Window w is in service. -/
def Serving (s : State) (w : WindowNo) : Prop := s.windows[w].decoded = true

/-- What a grant at the lane heads rests on: the books, holds in force of windows in service, copies in SNAP only, and no
OPEN hold outside SNAP while words of no fill wait. -/
structure LeftoversAccounted (s : State) : Prop where
  books : ParkAccounted s
  inService : ∀ i : HoldNo, InForce s i → Serving s s.holds[i].window
  copyingIsSnap : ∀ i : HoldNo, s.holds[i].state = .copying → (s.cfg s.holds[i].window).mode = .snap
  leftovers : LeftoversFirst s

/-- No hold comes into force, none opens, and the windows of those in force keep their fields and service. -/
theorem LeftoversAccounted.mono (h : LeftoversAccounted s) (hbooks : ParkAccounted t)
    (hleft : (∃ e ∈ t.park, e.fill = none) → ∃ e ∈ s.park, e.fill = none)
    (hholds : ∀ i : HoldNo, InForce t i → t.holds[i].state = s.holds[i].state ∧ t.holds[i].window = s.holds[i].window)
    (hwindows : ∀ i : HoldNo, InForce s i → t.cfg s.holds[i].window = s.cfg s.holds[i].window
      ∧ (Serving s s.holds[i].window → Serving t s.holds[i].window)) :
    LeftoversAccounted t := by
  have hforce (i : HoldNo) (hi : InForce t i) : InForce s i := by
    unfold InForce at hi
    rw [(hholds i hi).1] at hi
    exact hi
  refine ⟨hbooks, fun i hi => ?_, fun i hi => ?_, fun hexists i hi => ?_⟩
  · rw [(hholds i hi).2]
    exact (hwindows i (hforce i hi)).2 (h.inService i (hforce i hi))
  · have hin : InForce t i := .inr hi
    rw [(hholds i hin).1] at hi
    rw [(hholds i hin).2, (hwindows i (.inr hi)).1]
    exact h.copyingIsSnap i hi
  · have hin : InForce t i := .inl hi
    rw [(hholds i hin).1] at hi
    rw [(hholds i hin).2, (hwindows i (.inl hi)).1]
    exact h.leftovers (hleft hexists) i hi

theorem LeftoversAccounted.of_cleared (hbooks : ParkAccounted t) (hclear : ∀ i : HoldNo, t.holds[i] = .cleared) :
    LeftoversAccounted t := by
  refine ⟨hbooks, fun i hi => ?_, fun i hi => ?_, fun _ i hi => ?_⟩
  · unfold InForce at hi
    rw [hclear] at hi
    rcases hi with hi | hi <;> cases hi
  · rw [hclear] at hi; cases hi
  · rw [hclear] at hi; cases hi

/-- A hold that goes on and is in force was in force, with its window. -/
theorem Hold.GoesOn.inForce {h h' : Hold} (hon : h.GoesOn h') (hi : h'.state = .opened ∨ h'.state = .copying) :
    h'.state = h.state ∧ h'.window = h.window := by
  obtain rfl | rfl | ⟨-, hstate | hstate, -, hwindow, -⟩ := hon
  · exact ⟨rfl, rfl⟩
  · rcases hi with hi | hi <;> cases hi
  · exact ⟨hstate, hwindow⟩
  · rw [hstate] at hi
    rcases hi with hi | hi <;> cases hi

/-- One hold entry comes into force, in a window in service. -/
theorem LeftoversAccounted.setHold (h : LeftoversAccounted s) {i : HoldNo} {x : Hold}
    (hservice : Serving s x.window) (hcopying : x.state = .copying → (s.cfg x.window).mode = .snap)
    (hopened : x.state = .opened → (∃ e ∈ s.park, e.fill = none) → (s.cfg x.window).mode = .snap) :
    LeftoversAccounted (s.setHold i x) := by
  have hget (j : HoldNo) : (s.setHold i x).holds[j] = if i = j then x else s.holds[j] := getElem_set_fin _ _ _ _
  refine ⟨h.books, fun j hj => ?_, fun j hj => ?_, fun hexists j hj => ?_⟩
  · unfold InForce at hj
    rw [hget] at hj ⊢
    split at hj
    next hij => rw [if_pos hij]; exact hservice
    next hij => rw [if_neg hij]; exact h.inService j hj
  · rw [hget] at hj ⊢
    split at hj
    next hij => rw [if_pos hij]; exact hcopying hj
    next hij => rw [if_neg hij]; exact h.copyingIsSnap j hj
  · rw [hget] at hj ⊢
    split at hj
    next hij => rw [if_pos hij]; exact hopened hj hexists
    next hij => rw [if_neg hij]; exact h.leftovers hexists j hj

theorem Quiet.leftoversAccounted (hmove : Quiet d s t) (h : LeftoversAccounted s) : LeftoversAccounted t := by
  have hbooks := hmove.parkAccounted h.books
  have hkept (i : HoldNo) (_ : InForce s i) : s.cfg s.holds[i].window = s.cfg s.holds[i].window
      ∧ (Serving s s.holds[i].window → Serving s s.holds[i].window) := ⟨rfl, id⟩
  cases hmove with
  | neutral hlanes hrest =>
    rw [hrest] at hbooks ⊢
    exact h.mono hbooks id (fun _ _ => ⟨rfl, rfl⟩) hkept
  | reported r =>
    rw [report_writes] at hbooks ⊢
    exact h.mono hbooks id (fun _ _ => ⟨rfl, rfl⟩) hkept
  | windows _ ws hws => exact h.mono hbooks id (fun _ _ => ⟨rfl, rfl⟩) fun i _ => hws _
  | windowOff _ w hw =>
    refine h.mono hbooks id (fun _ _ => ⟨rfl, rfl⟩) fun i hi => ?_
    have hother : (s.setWindow w { s.windows[w] with state := .off }).windows[s.holds[i].window] = s.windows[s.holds[i].window] :=
      getElem_set_other _ _ _ _ fun heq => hw i hi heq.symm
    rw [State.cfg, Serving, Serving, hother]
    exact ⟨rfl, id⟩
  | holds _ hs hon => exact h.mono hbooks id (fun i hi => (hon i).inForce hi) hkept
  | copying _ i x hstate hservice hmode =>
    exact h.setHold hservice (fun _ => hmode) fun hopened => by rw [hstate] at hopened; cases hopened
  | activated _ f target hwaits =>
    refine h.mono hbooks (fun ⟨e', he', hnone⟩ => ?_) (fun _ _ => ⟨rfl, rfl⟩) hkept
    obtain ⟨e, he, rfl⟩ := List.mem_map.1 he'
    exact ⟨e, he, (releaseFor_fill _ _ _ e).1.symm.trans hnone⟩
  | parked _ f es hwaits hroom hentries =>
    refine h.mono hbooks (fun ⟨e, he, hnone⟩ => ?_) (fun _ _ => ⟨rfl, rfl⟩) hkept
    rcases List.mem_append.1 he with hold | hnew
    · exact ⟨e, hold, hnone⟩
    · rw [(hentries e hnew).1] at hnone
      cases hnone
  | _ => exact h.mono hbooks id (fun _ _ => ⟨rfl, rfl⟩) hkept

/-- Where no RELEASED word waits, no word of no fill waits (R107). -/
theorem ParkAccounted.noLeftovers (h : ParkAccounted s) (hnone : s.park.any ParkEntry.isReleased = false) :
    ¬ ∃ e ∈ s.park, e.fill = none := by
  rintro ⟨e, he, hfill⟩
  have hparked := h.2.1 e he hfill
  have hreleased := List.any_eq_false.1 hnone e he
  unfold ParkEntry.isReleased at hreleased
  split at hreleased
  next hcondition => exact hparked hcondition
  next => exact hreleased rfl

theorem Move.leftoversAccounted (hmove : Move c s t) (h : LeftoversAccounted s) : LeftoversAccounted t := by
  have hbooks := hmove.parkAccounted h.books
  have hkept (i : HoldNo) (_ : InForce s i) : s.cfg s.holds[i].window = s.cfg s.holds[i].window
      ∧ (Serving s s.holds[i].window → Serving s s.holds[i].window) := ⟨rfl, id⟩
  cases hmove with
  | quiet hquiet => exact hquiet.leftoversAccounted h
  | copied _ i hcopying =>
    exact h.setHold (h.inService i (.inr hcopying)) (fun _ => h.copyingIsSnap i hcopying) fun _ _ =>
      h.copyingIsSnap i hcopying
  | opened _ i x hstate hservice hnone =>
    exact h.setHold hservice (fun hcopying => by rw [hstate] at hcopying; cases hcopying) fun _ hexists =>
      absurd hexists (h.books.noLeftovers hnone)
  | unparked _ pre post e hqueue =>
    refine h.mono hbooks (fun ⟨x, hx, hnone⟩ => ⟨x, ?_, hnone⟩) (fun _ _ => ⟨rfl, rfl⟩) hkept
    rw [hqueue]
    rcases List.mem_append.1 hx with hpre | hpost
    · exact List.mem_append_left _ hpre
    · exact List.mem_append_right _ (.tail _ hpost)
  | configured _ w x hoff =>
    refine h.mono hbooks id (fun _ _ => ⟨rfl, rfl⟩) fun i hi => ?_
    have hother : (s.setWindow w x).windows[s.holds[i].window] = s.windows[s.holds[i].window] := by
      refine getElem_set_other _ _ _ _ fun heq => ?_
      have hin := h.inService i hi
      rw [← heq, Serving, hoff] at hin
      cases hin
    rw [State.cfg, Serving, Serving, hother]
    exact ⟨rfl, id⟩
  | resetTables => exact .of_cleared hbooks fun i => getElem_replicate_fin _ i
  | pinReset => exact .of_cleared hbooks fun i => getElem_replicate_fin _ i
  | _ => exact h.mono hbooks id (fun _ _ => ⟨rfl, rfl⟩) hkept

end

end Sys2Proof.Machine
end
section
/-! SUPPORT. The statement O59. -/

open Sys2Proof.Machine

/-- Settles O59: every move keeps the books; and with them, in a coherent state, the rule on words left by a soft reset. -/
theorem parkBooksKept : Obligations.ParkBooksKept := by
  intro s t hbooks hstep
  refine ⟨step_keeps (fun _ _ _ => Move.parkAccounted) hstep hbooks, fun hcoherent hleftovers => ?_⟩
  refine (step_keeps (fun _ _ _ => Move.leftoversAccounted) hstep ?_).leftovers
  exact ⟨hbooks, fun i hi => (hcoherent.holdInService i hi).1, hcoherent.copyingIsSnap, hleftovers⟩
end

section
/-! SUPPORT. No grant issues a write of a SINGLE record under an OPEN hold (R96): where quiet moves lead from a coherent
state, holds and fills of a SINGLE record stay apart, and no OPEN hold comes about. -/

namespace Sys2Proof.Machine

open Sys2Proof.Statements

section
variable {d : Prop} {c : Instr} {s t u : State}

/-! ### Holds that were OPEN before -/

/-- Every hold OPEN in t was OPEN in s, on the same record and of the same master. -/
def OpenBefore (s t : State) : Prop :=
  ∀ i : HoldNo, t.holds[i].state = .opened → s.holds[i].state = .opened ∧ t.holds[i].master = s.holds[i].master
    ∧ t.holds[i].window = s.holds[i].window ∧ t.holds[i].record = s.holds[i].record

theorem OpenBefore.of_eq (h : t.holds = s.holds) : OpenBefore s t := fun i hi => by
  rw [h] at hi ⊢
  exact ⟨hi, rfl, rfl, rfl⟩

theorem OpenBefore.trans (h : OpenBefore s t) (k : OpenBefore t u) : OpenBefore s u := fun i hi => by
  obtain ⟨ht, hm, hw, hr⟩ := k i hi
  obtain ⟨hs, hm', hw', hr'⟩ := h i ht
  exact ⟨hs, hm.trans hm', hw.trans hw', hr.trans hr'⟩

theorem Quiet.openBefore (hmove : Quiet d s t) : OpenBefore s t := by
  cases hmove with
  | neutral hlanes hrest => exact .of_eq (by rw [hrest])
  | reported r => exact .of_eq (by rw [report_writes])
  | holds _ hs hon =>
    intro i hi
    obtain hsame | hcleared | ⟨-, hstate, hm, hw, hr⟩ := hon i
    · rw [show ({ s with holds := hs } : State).holds[i] = s.holds[i] from hsame] at hi ⊢
      exact ⟨hi, rfl, rfl, rfl⟩
    · rw [show ({ s with holds := hs } : State).holds[i] = .cleared from hcleared] at hi
      cases hi
    · rcases hstate with hstate | hstate
      · exact ⟨hstate.symm.trans hi, hm, hw, hr⟩
      · cases hstate.symm.trans hi
  | copying _ i x hstate =>
    intro j hj
    have hget : (s.setHold i x).holds[j] = if i = j then x else s.holds[j] := getElem_set_fin _ _ _ _
    rw [hget] at hj ⊢
    split at hj
    next => rw [hstate] at hj; cases hj
    next hij => rw [if_neg hij]; exact ⟨hj, rfl, rfl, rfl⟩
  | _ => exact .of_eq rfl

theorem quiets_openBefore (hmoves : Quiets d s t) : OpenBefore s t := by
  induction hmoves with
  | refl => exact .of_eq rfl
  | tail _ hmove ih => exact ih.trans hmove.openBefore

theorem Quiet.cfg_eq (hmove : Quiet d s t) (w : WindowNo) : t.cfg w = s.cfg w := by
  cases hmove with
  | neutral hlanes hrest => rw [hrest]; rfl
  | reported r => rw [report_writes]; rfl
  | windows _ ws h => exact (h w).1
  | windowOff _ v hv =>
    simp only [State.cfg, setWindow_windows]
    rw [getElem_set_fin]
    split
    next hvw => subst hvw; rfl
    next => rfl
  | _ => rfl

theorem quiets_cfg (hmoves : Quiets d s t) (w : WindowNo) : t.cfg w = s.cfg w := by
  induction hmoves with
  | refl => rfl
  | tail _ hmove ih => exact (hmove.cfg_eq w).trans ih

/-! ### SINGLE records -/

/-- In a SINGLE window an OPEN hold meets a fill of its record only while that fill is WAITING and another master's (R96). -/
def SingleApart (s : State) : Prop :=
  ∀ (f : FillNo) (i : HoldNo), s.fills[f].state ≠ .free → (s.cfg s.fills[f].window).mode = .single →
    s.holds[i].state = .opened → sameRecord s.holds[i] s.fills[f] →
    s.fills[f].state = .waiting ∧ s.holds[i].master ≠ s.fills[f].owner

/-- Each open fill of t is one of s in its place, and no OPEN hold has come about. -/
theorem SingleApart.mono (h : SingleApart s) (hholds : OpenBefore s t) (hcfg : ∀ w, t.cfg w = s.cfg w)
    (hfills : ∀ f : FillNo, t.fills[f].state ≠ .free → s.fills[f].state = t.fills[f].state
      ∧ s.fills[f].owner = t.fills[f].owner ∧ s.fills[f].window = t.fills[f].window
      ∧ s.fills[f].record = t.fills[f].record) : SingleApart t := by
  intro f i hf hmode hi ⟨hwindow, hrecord⟩
  obtain ⟨his, him, hiw, hir⟩ := hholds i hi
  obtain ⟨hstate, howner, hfw, hfr⟩ := hfills f hf
  rw [hcfg, ← hfw] at hmode
  rw [← hstate, ← howner, him]
  exact h f i (by rw [hstate]; exact hf) hmode his ⟨(hiw.symm.trans hwindow).trans hfw.symm, (hir.symm.trans hrecord).trans hfr.symm⟩

theorem mem_otherOpenHolds {w : WindowNo} {r : Nat} {m : Tag} {i : HoldNo} :
    i ∈ otherOpenHolds s w r m ↔ s.holds[i].isOpenOn w r = true ∧ s.holds[i].master ≠ m := by
  simp only [otherOpenHolds, mem_tableAll, Bool.and_eq_true, decide_eq_true_eq]

/-- A fill of a SINGLE record may be ACTIVE only where no other master holds it (R94). -/
theorem fillPlace_single {w : WindowNo} {r : Nat} {m : Tag} {target : Option Bank}
    (h : fillPlace s w r m = some target) (hmode : (s.cfg w).mode = .single) (i : HoldNo)
    (hi : s.holds[i].isOpenOn w r = true) : s.holds[i].master = m := by
  simp only [fillPlace, hmode] at h
  split at h
  next hempty =>
    by_contra hother
    have hmem := mem_otherOpenHolds.2 ⟨hi, hother⟩
    rw [List.isEmpty_iff.1 hempty] at hmem
    cases hmem
  next => cases h

theorem Quiet.singleApart (hmove : Quiet True s t) (h : SingleApart s) : SingleApart t := by
  have hholds := hmove.openBefore
  have hcfg := hmove.cfg_eq
  cases hmove with
  | neutral hlanes hrest => exact h.mono hholds hcfg fun f _ => by rw [hrest]; exact ⟨rfl, rfl, rfl, rfl⟩
  | reported r => exact h.mono hholds hcfg fun f _ => by rw [report_writes]; exact ⟨rfl, rfl, rfl, rfl⟩
  | fills _ fs hon =>
    refine h.mono hholds hcfg fun f _ => ?_
    obtain hsame | ⟨-, hstate, howner, hwindow, hrecord, -⟩ := hon f
    · rw [show ({ s with fills := fs } : State).fills[f] = s.fills[f] from hsame]
      exact ⟨rfl, rfl, rfl, rfl⟩
    · exact ⟨hstate.symm, howner.symm, hwindow.symm, hrecord.symm⟩
  | fillFreed _ f hopen hparked =>
    refine h.mono hholds hcfg fun g hg => ?_
    rw [setFill_fills, getElem_set_fin] at hg ⊢
    split at hg
    next => exact absurd rfl hg
    next hfg => rw [if_neg hfg]; exact ⟨rfl, rfl, rfl, rfl⟩
  | activated _ f target hwaits hplace =>
    intro g i hg hmode hi hsame
    have hother (hfg : f ≠ g) (x : Fill) : (s.fills.set f x)[g] = s.fills[g] := getElem_set_other _ _ _ _ hfg
    by_cases hfg : f = g
    · subst hfg
      have hfill : (s.fills.set f { s.fills[f] with
          state := .active, target := target, countdown := (s.cfg s.fills[f].window).fillLimit })[f] = _ :=
        getElem_set_same _ _ _
      obtain ⟨hwindow, hrecord⟩ := hsame
      simp only [hfill] at hmode hwindow hrecord
      have howner := fillPlace_single hplace hmode i ((isOpenOn_iff _ _ _).2 ⟨hi, hwindow, hrecord⟩)
      have hopen : s.fills[f].state ≠ .free := by rw [hwaits]; decide
      exact absurd howner (h f i hopen hmode hi ⟨hwindow, hrecord⟩).2
    · simp only [hother hfg] at hg hmode hsame ⊢
      exact h g i hg hmode hi hsame
  | fillOpened _ f x hfree hstate hparked hown =>
    intro g i hg hmode hi hsame
    have hget : (s.setFill f x).fills[g] = if f = g then x else s.fills[g] := getElem_set_fin _ _ _ _
    rw [hget] at hg hsame ⊢
    simp only [hget] at hmode
    by_cases hfg : f = g
    · simp only [if_pos hfg] at hsame ⊢
      exact ⟨hstate, hown trivial i ((isOpenOn_iff _ _ _).2 ⟨hi, hsame.1, hsame.2⟩)⟩
    · simp only [if_neg hfg] at hg hmode hsame ⊢
      exact h g i hg hmode hi hsame
  | parked _ f es hwaits =>
    refine h.mono hholds hcfg fun g _ => ?_
    dsimp only
    rw [getElem_set_fin]
    split
    next hfg => subst hfg; exact ⟨rfl, rfl, rfl, rfl⟩
    next => exact ⟨rfl, rfl, rfl, rfl⟩
  | _ => exact h.mono hholds hcfg fun f _ => ⟨rfl, rfl, rfl, rfl⟩

/-- What a grant rests on, as quiet moves keep it from a coherent state. -/
structure GrantSafe (s : State) : Prop where
  distinct : HoldsDistinct s
  single : SingleApart s
  left : LeftoversAccounted s

theorem GrantSafe.of_quiets (hmoves : Quiets True s t) (h : GrantSafe s) : GrantSafe t := by
  induction hmoves with
  | refl => exact h
  | tail _ hmove ih => exact ⟨hmove.holdsDistinct trivial ih.distinct, hmove.singleApart ih.single, hmove.leftoversAccounted ih.left⟩

/-- A coherent state with its books in order, whatever waits in its queue. -/
theorem GrantSafe.of_coherent (h : Coherent s) (hbooks : ParkAccounted s) (hleft : LeftoversFirst s) : GrantSafe s :=
  ⟨h.holdsDistinct, h.single, hbooks, fun i hi => (h.holdInService i hi).1, h.copyingIsSnap, hleft⟩

theorem GrantSafe.settle (h : GrantSafe s) : Quiets True s (settle s) := quiets_settle fun _ => h.distinct

/-! ### Steps that issue safely -/

/-- Request x, issued on the way from s to t, writes no SINGLE record that an OPEN hold of t is on; such a hold was OPEN
before, on that record. -/
def IssuedApart (s t : State) (x : InFlight) : Prop :=
  (∀ w r, x.writesRecord w r = false)
    ∨ (OpenBefore s t ∧ ∀ i : HoldNo, t.holds[i].state = .opened → (s.cfg s.holds[i].window).mode = .single →
        x.writesRecord s.holds[i].window s.holds[i].record = false)

/-- Whatever joins the in-flight list on the way from s to t is issued apart from the OPEN holds of SINGLE records. -/
def IssuesApart (s t : State) : Prop := ∃ new, t.inFlight = s.inFlight ++ new ∧ ∀ x ∈ new, IssuedApart s t x

theorem IssuesApart.none (h : t.inFlight = s.inFlight) : IssuesApart s t := ⟨[], by simp [h], nofun⟩

theorem IssuesApart.one {x : InFlight} (hlist : t.inFlight = s.inFlight ++ [x]) (hx : IssuedApart s t x) : IssuesApart s t :=
  ⟨[x], hlist, fun _ hy => by rw [List.mem_singleton.1 hy]; exact hx⟩

/-- Quiet moves come before an issue. -/
theorem IssuesApart.after (hmoves : Quiets d s t) (h : IssuesApart t u) : IssuesApart s u := by
  obtain ⟨new, hlist, hnew⟩ := h
  refine ⟨new, by rw [hlist, quiets_inFlight hmoves], fun x hx => ?_⟩
  obtain hnone | ⟨hbefore, hapart⟩ := hnew x hx
  · exact .inl hnone
  · refine .inr ⟨(quiets_openBefore hmoves).trans hbefore, fun i hi hmode => ?_⟩
    obtain ⟨ht, -, hw, hr⟩ := quiets_openBefore hmoves i (hbefore i hi).1
    rw [← hw, ← hr]
    exact hapart i hi (by rw [quiets_cfg hmoves, hw]; exact hmode)

/-! ### What each way of issue issues -/

section
variable {m : Tag} {q : Request} {g : Segment} {sp : GuardSpan}

theorem takeWords_inFlight (m : Tag) (fates : List WordState) (s : State) : (takeWords m fates s).inFlight = s.inFlight := by
  rw [takeWords_writes]

theorem issueRead_inFlight (addr : WordAddr) (guard : GuardStatus) (origin : Option GuardReadOrigin)
    (overlay : List WriteWord) (s : State) :
    (issueRead m q g addr guard origin overlay s).inFlight
      = s.inFlight ++ [⟨⟨addr, .read g.length⟩, .laneRead (lanePos m q g) origin overlay⟩] := takeWords_inFlight _ _ _

theorem issueWrite_inFlight (addr : WordAddr) (origin : Option GuardWriteOrigin) (s : State) :
    (issueWrite m q g addr origin s).inFlight
      = s.inFlight ++ [⟨⟨addr, .write (requestWords q g)⟩, .laneWrite (lanePos m q g) origin⟩] := takeWords_inFlight _ _ _

theorem coverHold_inFlight (i : HoldNo) (a n : Nat) (s : State) : (coverHold i a n s).inFlight = s.inFlight := by
  rw [coverHold_writes]

theorem drainTest_inFlight (w : WindowNo) (s : State) : (drainTest w s).inFlight = s.inFlight := by rw [drainTest_writes]

theorem report_inFlight (r : Report) (s : State) : (report r s).inFlight = s.inFlight := by rw [report_writes]

theorem freeOwnBroken_inFlight (m : Tag) (w : WindowNo) (r : Nat) (s : State) :
    (freeOwnBroken m w r s).inFlight = s.inFlight := by rw [freeOwnBroken_writes]

/-- The request of a write of fill f (R13, R17). -/
def fillWriteInFlight (s : State) (m : Tag) (q : Request) (g : Segment) (sp : GuardSpan) (f : FillNo) : InFlight :=
  ⟨⟨recordWord (s.cfg sp.window) s.fills[f].target sp.record sp.offset, .write (requestWords q g)⟩,
    .laneWrite (lanePos m q g) (some ⟨sp.window, sp.record, (s.cfg sp.window).dirIndex sp.record, fillRef s f⟩)⟩

theorem issueFillWrite_inFlight (f : FillNo) (s : State) :
    (issueFillWrite m q g sp f s).inFlight = s.inFlight ++ [fillWriteInFlight s m q g sp f] := by
  simp only [issueFillWrite]
  rw [drainTest_inFlight, fillIssued_writes]
  exact issueWrite_inFlight _ _ _

theorem issueFillWrite_openBefore (f : FillNo) (s : State) : OpenBefore s (issueFillWrite m q g sp f s) := by
  have hwritten (addr : WordAddr) (origin : Option GuardWriteOrigin) (u : State) :
      OpenBefore u (issueWrite m q g addr origin u) := .of_eq (by rw [issueWrite_writes])
  have hended (u : State) : OpenBefore u (drainTest sp.window (fillIssued f u)) :=
    quiets_openBefore ((quiets_fillIssued (d := False) f u).trans (quiets_drainTest _ _))
  simp only [issueFillWrite]
  exact .trans (t := countCoverage f sp.offset (requestWords q g) s) (.of_eq rfl) ((hwritten _ _ _).trans (hended _))

theorem fillWriteInFlight_writesRecord (f : FillNo) (w : WindowNo) (r : Nat) :
    (fillWriteInFlight s m q g sp f).writesRecord w r = (decide (sp.window = w) && decide (sp.record = r)) := rfl

/-- A read is no write. -/
theorem issuesApart_read {addr : WordAddr} {guard : GuardStatus} {origin : Option GuardReadOrigin}
    {overlay : List WriteWord} (hafter : t.inFlight = (issueRead m q g addr guard origin overlay u).inFlight)
    (hbefore : u.inFlight = s.inFlight) : IssuesApart s t :=
  .one (hafter.trans ((issueRead_inFlight _ _ _ _ u).trans (by rw [hbefore]))) (.inl fun _ _ => rfl)

theorem issuesApart_guardRead {bank : Option Bank} {guard : GuardStatus} {hold : Option HoldNo}
    {overlay : List WriteWord} (hafter : t.inFlight = (issueGuardRead m q g sp bank guard hold overlay u).inFlight)
    (hbefore : u.inFlight = s.inFlight) : IssuesApart s t := issuesApart_read hafter hbefore

theorem issuesApart_plain (s : State) : IssuesApart s (issuePlain m q g s) := by
  unfold issuePlain
  split
  · exact .one (issueRead_inFlight _ _ _ _ s) (.inl fun _ _ => rfl)
  · exact .one (issueWrite_inFlight _ _ s) (.inl fun _ _ => rfl)

/-- A write of an ACTIVE fill meets no OPEN hold in SINGLE. -/
theorem issuesApart_fillWrite {f : FillNo} (h : SingleApart s) (hactive : s.fills[f].state = .active)
    (hwindow : s.fills[f].window = sp.window) (hrecord : s.fills[f].record = sp.record) :
    IssuesApart s (issueFillWrite m q g sp f s) := by
  have hbefore := issueFillWrite_openBefore (m := m) (q := q) (g := g) (sp := sp) f s
  refine .one (issueFillWrite_inFlight f s) (.inr ⟨hbefore, fun i hi hmode => ?_⟩)
  obtain ⟨his, -⟩ := hbefore i hi
  rw [fillWriteInFlight_writesRecord, Bool.and_eq_false_iff, decide_eq_false_iff_not, decide_eq_false_iff_not, ← not_and_or]
  rintro ⟨hw, hr⟩
  have hsame : s.holds[i].window = s.fills[f].window := hw.symm.trans hwindow.symm
  obtain ⟨hwaits, -⟩ := h f i (by rw [hactive]; decide) (by rw [← hsame]; exact hmode) his ⟨hsame, hr.symm.trans hrecord.symm⟩
  rw [hactive] at hwaits
  cases hwaits

/-- An entry that has been broken is not OPEN. -/
theorem breakHold_notOpen (reason : BreakReason) (i : HoldNo) (s : State) :
    (breakHold reason i s).holds[i].state ≠ .opened := by
  have hentry : (breakEntry reason i s).holds[i].state ≠ .opened := by
    have hreport (h : Hold) (u : State) : (breakReport reason h u).holds = u.holds := by rw [breakReport_writes]
    unfold breakEntry
    dsimp only
    split
    · rw [hreport]
      simp only [count, setHold_holds, getElem_set_same]
      nofun
    · simp only [count, setHold_holds, getElem_set_same]
      nofun
    next h => rw [h]; decide
    next h => rw [h]; decide
  intro hopen
  exact hentry (quiets_openBefore (quiets_afterBreak (d := False) s.holds[i] _) i hopen).1

theorem breakAll_notOpen (reason : BreakReason) {is : List HoldNo} {i : HoldNo} (hi : i ∈ is) (s : State) :
    (breakAll reason is s).holds[i].state ≠ .opened := by
  induction is generalizing s with
  | nil => cases hi
  | cons j js ih =>
    rcases List.mem_cons.1 hi with rfl | hmem
    · intro hopen
      exact breakHold_notOpen reason i s (quiets_openBefore (quiets_breakAll (d := False) reason js _) i hopen).1
    · exact ih hmem _

/-- A fill that opens ACTIVE in SINGLE leaves no OPEN hold on its record (R58, R95). -/
theorem issuesApart_fillOpening {f : FillNo} {target : Option Bank} {ys : List HoldNo} (h : HoldsDistinct s)
    (hyields : (s.cfg sp.window).mode = .single →
      ∀ i ∈ otherOpenHolds (surrender m sp.window sp.record s) sp.window sp.record m, i ∈ ys) :
    IssuesApart s (issueFillOpening m q g sp f target ys s) := by
  let s1 := surrender m sp.window sp.record s
  let s2 := breakAll .yielded (freeOrder s.freeCount ys) s1.drawn
  let s3 := allocateFill f .active m sp.window sp.record target s2
  let s4 := reofferWhen (Stall.isParkRoom sp.window sp.record) s3
  have hgiven : OpenBefore s s1 := quiets_openBefore (quiets_surrender (d := False) m _ _ s)
  have hbroken : OpenBefore s1 s4 :=
    .trans (t := s1.drawn) (.of_eq rfl) (.trans (t := s2) (quiets_openBefore (quiets_breakAll (d := False) _ _ _)) (.of_eq rfl))
  have hissued : OpenBefore s4 (issueFillWrite m q g sp f s4) := issueFillWrite_openBefore f s4
  have hlist : s4.inFlight = s.inFlight := by
    change s2.inFlight = s.inFlight
    simp only [s2, s1]
    rw [breakAll_writes, State.drawn, surrender_writes]
  refine .one (x := fillWriteInFlight s4 m q g sp f) ?_ (.inr ⟨hgiven.trans (hbroken.trans hissued), fun i hi hmode => ?_⟩)
  · exact (issueFillWrite_inFlight f s4).trans (by rw [hlist])
  · rw [fillWriteInFlight_writesRecord, Bool.and_eq_false_iff, decide_eq_false_iff_not, decide_eq_false_iff_not, ← not_and_or]
    rintro ⟨hw, hr⟩
    obtain ⟨h4, -⟩ := hissued i hi
    obtain ⟨h1, -⟩ := hbroken i h4
    obtain ⟨-, -, hw1, hr1⟩ := hgiven i h1
    have hon : s1.holds[i].isOpenOn sp.window sp.record = true :=
      (isOpenOn_iff _ _ _).2 ⟨h1, hw1.trans hw.symm, hr1.trans hr.symm⟩
    have hother : s1.holds[i].master ≠ m := by
      have hgivenUp : s1.holds = givenUp s m sp.window sp.record := surrender_holds m _ _ s
      rw [hgivenUp] at hon ⊢
      exact givenUp_own h i hon
    have hmem := hyields (by rw [hw]; exact hmode) i (mem_otherOpenHolds.2 ⟨hon, hother⟩)
    exact breakAll_notOpen .yielded (mem_freeOrder.2 hmem) s1.drawn h4

/-- A segment issued as its owner decided is issued apart from the OPEN holds of SINGLE records. -/
theorem issuesApart_segment {how : IssueKind} (h : GrantSafe s) (hsays : how.SaysOf s m (segmentSpan s q g)) :
    IssuesApart s (issueSegment m q g how { s with lastIssueLane := m }) := by
  unfold issueSegment
  rw [segmentSpan_noted]
  dsimp only
  split
  next => exact issuesApart_plain { s with lastIssueLane := m }
  next => exact issuesApart_guardRead rfl rfl
  next => exact issuesApart_guardRead ((drainTest_inFlight _ _).trans (coverHold_inFlight _ _ _ _)) rfl
  next => exact issuesApart_guardRead (coverHold_inFlight _ _ _ _) rfl
  next => exact issuesApart_guardRead (report_inFlight _ _) rfl
  next => exact issuesApart_guardRead rfl (freeOwnBroken_inFlight _ _ _ _)
  next => exact issuesApart_guardRead (coverHold_inFlight _ _ _ _) rfl
  next => exact issuesApart_guardRead rfl rfl
  next f =>
    obtain ⟨hopen, -, hactive⟩ := hsays
    obtain ⟨-, hw, hr⟩ := openFill_spec hopen
    exact issuesApart_fillWrite (s := { s with lastIssueLane := m }) h.single hactive hw hr
  next f target ys =>
    obtain ⟨-, -, hyields⟩ := hsays
    refine issuesApart_fillOpening (s := { s with lastIssueLane := m }) h.distinct fun hmode i hi => hyields hmode i ?_
    rw [mem_otherOpenHolds, surrender_holds] at hi ⊢
    exact hi

/-! ### Grants (R19) -/

theorem issuesApart_grantCopy (s : State) : IssuesApart s (grantCopy s) := by
  unfold grantCopy
  split
  next => exact .none rfl
  next =>
    split
    · exact .one rfl (.inl fun _ _ => rfl)
    · exact .none rfl

/-- A RELEASED word is of an ACTIVE fill, or was left by a soft reset (R101, R107). -/
theorem released_spec (h : ParkAccounted s) {e : ParkEntry} {a : WordAddr} (he : e ∈ s.park)
    (hreleased : e.condition = .released a) :
    e.fill = none ∨ ∃ f : FillNo, s.fills[f].state = .active ∧ e.window = s.fills[f].window ∧ e.record = s.fills[f].record := by
  cases hfill : e.fill with
  | none => exact .inl rfl
  | some ref =>
    right
    obtain ⟨hrefers, hw, hr, -, hcondition⟩ := h.1 e he ref hfill
    obtain ⟨hopen, -⟩ := refersTo_iff.1 hrefers
    refine ⟨ref.index, ?_, hw, hr⟩
    cases hstate : s.fills[ref.index].state with
    | free => exact absurd hstate hopen
    | waiting =>
      have hparked := hcondition.2 hstate
      rw [hreleased] at hparked
      cases hparked
    | active => rfl

theorem fillReleased_openBefore (ref : Option FillRef) (s : State) : OpenBefore s (fillReleased ref s) := by
  cases ref with
  | none => exact .of_eq rfl
  | some f =>
    simp only [fillReleased]
    split
    · have hended (u : State) : OpenBefore u (fillIssued f.index u) :=
        quiets_openBefore (quiets_fillIssued (d := False) f.index u)
      exact .trans (.of_eq rfl) (hended _)
    · exact .of_eq rfl

theorem grantRelease_openBefore (s : State) : OpenBefore s (grantRelease s) := by
  unfold grantRelease
  split
  next =>
    split
    next => exact .of_eq rfl
    next e a rest _ =>
      let s1 := reofferWhen Stall.isAnyParkRoom (issue (e.toInFlight a) { s with park := rest })
      have hended : OpenBefore s1 (drainTest e.window (fillReleased e.fill s1)) :=
        (fillReleased_openBefore e.fill s1).trans (quiets_openBefore (quiets_drainTest (d := False) _ _))
      exact .trans (t := s1) (.of_eq rfl) hended
  next => exact .of_eq rfl

theorem fillReleased_inFlight (ref : Option FillRef) (s : State) : (fillReleased ref s).inFlight = s.inFlight := by
  rw [fillReleased_writes]

theorem issuesApart_grantRelease (h : GrantSafe s) : IssuesApart s (grantRelease s) := by
  have hbefore := grantRelease_openBefore s
  unfold grantRelease at hbefore ⊢
  split
  next hturn =>
    rw [if_pos hturn] at hbefore
    split
    next => exact .none rfl
    next e a rest hfound =>
      rw [hfound] at hbefore
      obtain ⟨pre, post, hpark, -, hreleased⟩ := firstReleased_spec hfound
      have he : e ∈ s.park := by simp [hpark]
      refine .one (x := e.toInFlight a) ?_ (.inr ⟨hbefore, fun i hi hmode => ?_⟩)
      · rw [drainTest_inFlight, fillReleased_inFlight]
        rfl
      · obtain ⟨his, -⟩ := hbefore i hi
        have hwrites : (e.toInFlight a).writesRecord s.holds[i].window s.holds[i].record
            = (decide (e.window = s.holds[i].window) && decide (e.record = s.holds[i].record)) := rfl
        rw [hwrites, Bool.and_eq_false_iff, decide_eq_false_iff_not, decide_eq_false_iff_not, ← not_and_or]
        rintro ⟨hw, hr⟩
        obtain hnone | ⟨f, hactive, hfw, hfr⟩ := released_spec h.left.books he hreleased
        · have hsnap := h.left.leftovers ⟨e, he, hnone⟩ i his
          rw [hsnap] at hmode
          cases hmode
        · have hsame : s.holds[i].window = s.fills[f].window := hw.symm.trans hfw
          obtain ⟨hwaits, -⟩ := h.single f i (by rw [hactive]; decide) (by rw [← hsame]; exact hmode) his
            ⟨hsame, hr.symm.trans hfr⟩
          rw [hactive] at hwaits
          cases hwaits
  next => exact .none rfl

theorem issuesApart_grantAgain {lanes : State → State} (hlanes : ∀ s : State, GrantSafe s → IssuesApart s (lanes s))
    (h : GrantSafe s) : IssuesApart s (grantAgain lanes s) := by
  unfold grantAgain
  split
  · split
    · exact issuesApart_grantRelease h
    · exact hlanes s h
  · exact issuesApart_grantCopy s

theorem issuesApart_grantLane {again : State → State} (hagain : ∀ s : State, GrantSafe s → IssuesApart s (again s))
    (h : GrantSafe s) : IssuesApart s (grantLane again m s) := by
  cases hhead : headSegment s m with
  | none =>
    simp only [grantLane, hhead]
    exact hagain s h
  | some p =>
    obtain ⟨q, g⟩ := p
    by_cases hissue : ∃ how, decideSegment s m q g = .issue how
    · obtain ⟨how, hdecide⟩ := hissue
      have hsays := decideSegment_saysOf hhead
      rw [hdecide] at hsays
      rw [grantLane_issue again hhead hdecide]
      exact issuesApart_segment h hsays
    · rw [grantLane_other again hhead fun how hdecide => hissue ⟨how, hdecide⟩]
      have hcarried : Quiets True s (carryOut m q g (decideSegment s m q g) s) := quiets_carryOut (fun _ => h.distinct) hhead
      exact (hagain _ (h.of_quiets hcarried)).after hcarried

theorem issuesApart_grantRound (ms : List Tag) (h : GrantSafe s) : IssuesApart s (grantRound ms s) := by
  induction ms generalizing s with
  | nil => exact .none rfl
  | cons m ms ih =>
    simp only [grantRound]
    split
    · exact issuesApart_grantLane (fun _ h => issuesApart_grantAgain (fun _ h => ih h) h) h
    · exact ih h

theorem issuesApart_grantNextLane (h : GrantSafe s) : IssuesApart s (grantNextLane s) := by
  unfold grantNextLane
  split
  · exact issuesApart_grantRound _ h
  · exact .none rfl

end

/-! ### Steps that issue nothing -/

theorem Move.inFlight_length (hmove : Move c s t) (hc : ¬ Grants c) : t.inFlight.length ≤ s.inFlight.length := by
  cases hmove with
  | quiet hquiet => rw [hquiet.inFlight_eq]
  | inFlight _ l hl => exact hl.elim id fun hgrants => absurd hgrants.1 hc
  | pinReset => exact Nat.zero_le _
  | _ => exact le_rfl

theorem moves_inFlight_length (hmoves : Moves c s t) (hc : ¬ Grants c) : t.inFlight.length ≤ s.inFlight.length := by
  induction hmoves with
  | refl => exact le_rfl
  | tail _ hmove ih => exact (hmove.inFlight_length hc).trans ih

/-- A grant issues apart from the OPEN holds of SINGLE records. -/
theorem issuesApart_exec (hc : Grants c) (h : GrantSafe s) (hstep : exec c s = .next t) : IssuesApart s t := by
  have hsettled := h.settle
  rcases hc with rfl | rfl | rfl
  · cases hstep
    exact (issuesApart_grantNextLane (h.of_quiets hsettled)).after hsettled
  · cases hstep
    exact (issuesApart_grantCopy _).after hsettled
  · cases hstep
    exact (issuesApart_grantRelease (h.of_quiets hsettled)).after hsettled

end

end Sys2Proof.Machine
end
section
/-! SUPPORT. The statement O60. -/

open Sys2Proof.Machine

/-- Settles O60: only grants issue, and what they issue is apart from the OPEN holds of SINGLE records. -/
theorem noWriteUnderOpenSingleHold : Obligations.NoWriteUnderOpenSingleHold := by
  intro s t new i hcoherent hbooks hleftovers hstep hlist hopen hstays hmode x hx
  have hnone (h : t.inFlight.length ≤ s.inFlight.length) : new = [] := by
    rw [hlist, List.length_append] at h
    exact List.length_eq_zero_iff.1 (by omega)
  cases hqueue : s.pending with
  | nil =>
    have hidle : t = s := by
      unfold step at hstep
      rw [hqueue] at hstep
      cases hstep
      rfl
    rw [hnone (by rw [hidle])] at hx
    cases hx
  | cons c cs =>
    have hexec : exec c { s with pending := cs } = .next t := by
      unfold step at hstep
      rw [hqueue] at hstep
      exact hstep
    by_cases hgrant : Grants c
    · have hpopped : Quiets True s { s with pending := cs } := quiets_neutral (fun _ => rfl) rfl
      have hsafe := (GrantSafe.of_coherent hcoherent hbooks hleftovers).of_quiets hpopped
      obtain ⟨new', hlist', hapart⟩ := issuesApart_exec hgrant hsafe hexec
      have hsame : new = new' := List.append_cancel_left (hlist.symm.trans hlist')
      subst hsame
      obtain hnever | ⟨-, hwrites⟩ := hapart x hx
      · exact hnever _ _
      · exact hwrites i hstays hmode
    · have hlength := moves_inFlight_length (moves_exec hexec) hgrant
      rw [hnone hlength] at hx
      cases hx
end

section
/-! SUPPORT. Arrival, the taking of words, offers and grants in general, the arbiters, and delivery (chapter 1): statements
O4, O5, O11, O12, O18 and O27. -/

namespace Sys2Proof.Machine

open Sys2Proof.Statements

section
variable {s : State} {m : Tag} {q : Request} {g : Segment}

/-! ### Lanes -/

/-- Requests all of whose words are taken are passed over when the head is sought. -/
theorem refuseWraps_skip {pre : List Request} (rest : List Request) (h : ∀ p ∈ pre, p.allTaken = true) :
    refuseWraps (pre ++ rest) = (pre ++ (refuseWraps rest).1, (refuseWraps rest).2) := by
  induction pre with
  | nil => rfl
  | cons p pre ih =>
    simp only [List.cons_append, refuseWraps, h p (.head _), if_true]
    rw [ih fun x hx => h x (.tail _ hx)]

/-- The first request with untaken words that does not wrap is the head. -/
theorem refuseWraps_head {pre post : List Request} (h : ∀ p ∈ pre, p.allTaken = true) (hq : q.allTaken = false)
    (hwraps : q.wraps = false) : refuseWraps (pre ++ q :: post) = (pre ++ q :: post, true) := by
  rw [refuseWraps_skip _ h]
  simp [refuseWraps, hq, hwraps]

theorem refuseWraps_none {qs : List Request} (h : ∀ p ∈ qs, p.allTaken = true) : refuseWraps qs = (qs, false) := by
  have hskip := refuseWraps_skip [] h
  simpa [refuseWraps] using hskip

theorem onHead_append {pre post : List Request} (f : Request → Request) (h : ∀ p ∈ pre, p.allTaken = true)
    (hq : q.allTaken = false) : onHead f (pre ++ q :: post) = pre ++ f q :: post := by
  induction pre with
  | nil => simp [onHead, hq]
  | cons p pre ih =>
    simp only [List.cons_append, onHead, h p (.head _), if_true]
    rw [ih fun x hx => h x (.tail _ hx)]

theorem advance_of_refuseWraps {l : Lane} {qs : List Request} {hasHead : Bool} (h : refuseWraps l.reqs = (qs, hasHead)) :
    l.advance = { l with
      reqs := qs, phase := if hasHead then .toOffer else .idle, exhaustedNoted := false, parkFullNoted := false } := by
  simp only [Lane.advance, h]

/-- A lane without a head has no untaken word. -/
theorem head_eq_none {l : Lane} (h : l.head = none) : ∀ p ∈ l.reqs, p.allTaken = true := fun p hp => by
  simpa using List.find?_eq_none.1 h p hp

theorem newRequest_allTaken (place : Fin 4) (addr : WordAddr) {body : Body} (h : burstOk body.length = true) :
    (newRequest place addr body).allTaken = false := by
  simp only [burstOk, Bool.and_eq_true, decide_eq_true_eq] at h
  simp only [newRequest, Request.allTaken, List.all_eq_false, List.mem_replicate]
  exact ⟨.untaken, ⟨by omega, rfl⟩, by decide⟩

/-! ### Arrival (R1, R4, R5) -/

theorem exec_requestArrival (h : s.Settled) (hreset : s.resetLow = false) {addr : WordAddr} {body : Body}
    (hburst : burstOk body.length = true) : exec (.requestArrival m addr body) s = .next (acceptRequest m addr body s) := by
  change execRequestArrival m addr body s = _
  simp only [execRequestArrival, hburst, hreset, if_true, Bool.false_eq_true, if_false]
  rw [settle_of_settled h]

theorem acceptRequest_full {addr : WordAddr} {body : Body} (h : 4 ≤ s.lanes[m].reqs.length) :
    acceptRequest m addr body s = s := if_neg (Nat.not_lt.2 h)

theorem acceptRequest_lanes {addr : WordAddr} {body : Body} (h : s.lanes[m].reqs.length < 4) :
    (acceptRequest m addr body s).lanes = s.lanes.set m (s.lanes[m].join addr body) := by
  have hroom : s.lanes[m].reqs.length < Config.laneDepth := h
  rw [acceptRequest, if_pos hroom, grantResponse_lanes]
  rfl

/-- Settles O4, by the lane joined: it has a head, or the new request is its head, or is refused whole. -/
theorem arrivalJoinsLane : Obligations.ArrivalJoinsLane := by
  intro s m addr body hsettled hreset hburst
  let l := s.lanes[m]
  let q := newRequest l.nextPlace addr body
  have hjoins (words : List WordState) (phase : HeadPhase) (hroom : l.reqs.length < 4)
      (hreqs : (l.join addr body).reqs = l.reqs ++ [⟨l.nextPlace, addr, body, words⟩])
      (hphase : (l.join addr body).phase = phase) :
      ∃ t, exec (.requestArrival m addr body) s = .next t
        ∧ t.lanes[m].reqs = s.lanes[m].reqs ++ [⟨s.lanes[m].nextPlace, addr, body, words⟩] ∧ t.lanes[m].phase = phase
        ∧ (∀ n : Tag, n ≠ m → t.lanes[n] = s.lanes[n])
        ∧ t = { s with lanes := t.lanes, responseGrant := t.responseGrant } := by
    refine ⟨_, exec_requestArrival hsettled hreset hburst, ?_, ?_, fun n hn => ?_, acceptRequest_writes m addr body s⟩
    · rw [acceptRequest_lanes hroom, getElem_set_same]
      exact hreqs
    · rw [acceptRequest_lanes hroom, getElem_set_same]
      exact hphase
    · rw [acceptRequest_lanes hroom, getElem_set_other _ _ _ _ hn.symm]
  have huntaken : q.allTaken = false := newRequest_allTaken _ _ hburst
  have hlength : q.words.length = body.length := List.length_replicate
  dsimp only
  refine ⟨fun hfull => ?_, fun hroom hhead => ?_, fun hroom hhead hfits => ?_, fun hroom hhead hwraps => ?_⟩
  · rw [exec_requestArrival hsettled hreset hburst, acceptRequest_full hfull]
  · have hjoin : l.join addr body = { l with reqs := l.reqs ++ [q], nextPlace := l.nextPlace + 1 } := by
      have hsome : l.head.isNone = false := by rw [← Bool.not_eq_true, Option.isNone_iff_eq_none]; exact hhead
      simp only [Lane.join, hsome]
      rfl
    exact hjoins _ _ hroom (by rw [hjoin]; rfl) (by rw [hjoin])
  all_goals
    have hnone : l.head.isNone = true := Option.isNone_iff_eq_none.2 hhead
    have htaken : ∀ p ∈ l.reqs, p.allTaken = true := head_eq_none hhead
    have hjoin : l.join addr body = Lane.advance { l with reqs := l.reqs ++ [q], nextPlace := l.nextPlace + 1 } := by
      simp only [Lane.join, hnone]
      rfl
  · have hfit : q.wraps = false := decide_eq_false (by rw [hlength]; exact Nat.not_lt.2 hfits)
    have hadvance := advance_of_refuseWraps (l := { l with reqs := l.reqs ++ [q], nextPlace := l.nextPlace + 1 })
      (refuseWraps_head (post := []) htaken huntaken hfit)
    exact hjoins _ _ hroom (by rw [hjoin, hadvance]; rfl) (by rw [hjoin, hadvance]; rfl)
  · have hover : q.wraps = true := decide_eq_true (by rw [hlength]; exact hwraps)
    have hrefused : refuseWraps (l.reqs ++ [q]) = (l.reqs ++ [{ q with words := q.words.map fun _ => refusedWord }], false) := by
      rw [refuseWraps_skip _ htaken]
      simp [refuseWraps, huntaken, hover]
    have hadvance := advance_of_refuseWraps (l := { l with reqs := l.reqs ++ [q], nextPlace := l.nextPlace + 1 }) hrefused
    have hwords : q.words.map (fun _ => refusedWord) = List.replicate body.length (.done ⟨0, .fault, .plain⟩) :=
      List.map_replicate
    refine hjoins _ _ hroom ?_ (by rw [hjoin, hadvance]; rfl)
    rw [hjoin, hadvance, hwords]
    rfl

/-! ### Words taken (R5) -/

theorem takeWords_other (fates : List WordState) (s : State) {n : Tag} (h : n ≠ m) :
    (takeWords m fates s).lanes[n] = s.lanes[n] := by
  rw [takeWords_lanes, getElem_set_other _ _ _ _ h.symm]

theorem takeWords_own (fates : List WordState) (s : State) :
    (takeWords m fates s).lanes[m]
      = Lane.advance { s.lanes[m] with reqs := onHead (fun q => q.take fates) s.lanes[m].reqs } := by
  rw [takeWords_lanes, getElem_set_same]

/-- Settles O5: the taken words change the head alone, and the next head is sought behind it. -/
theorem takenWordsStand : Obligations.TakenWordsStand := by
  intro s m pre post q fates hreqs hpre hq hwraps hfits
  dsimp only
  let q' := q.take fates
  have hlane : (takeWords m fates s).lanes[m] = Lane.advance { s.lanes[m] with reqs := pre ++ q' :: post } := by
    rw [takeWords_own, hreqs, onHead_append _ hpre hq]
  have hlength : q'.words.length = q.words.length := by
    simp only [q', Request.take, List.length_append, List.length_take, List.length_drop]
    omega
  have hwraps' : q'.wraps = false := by
    rw [← hwraps]
    simp only [Request.wraps, hlength]
    rfl
  have hskip (htaken : q'.allTaken = true) : ∀ p ∈ pre ++ [q'], p.allTaken = true := fun p hp => by
    rcases List.mem_append.1 hp with hp | hp
    · exact hpre p hp
    · rw [List.mem_singleton.1 hp]; exact htaken
  refine ⟨fun n hn => takeWords_other fates s hn, takeWords_writes m fates s, fun huntaken => ?_, fun htaken hlast => ?_,
    fun r rs htaken hnext hr hrwraps => ?_⟩
  · rw [hlane, advance_of_refuseWraps (refuseWraps_head hpre huntaken hwraps')]
    exact ⟨rfl, rfl⟩
  · subst hlast
    rw [hlane, advance_of_refuseWraps (refuseWraps_none (hskip htaken))]
    exact ⟨rfl, rfl⟩
  · subst hnext
    have hlist : pre ++ q' :: r :: rs = (pre ++ [q']) ++ r :: rs := by simp
    have hhead : refuseWraps (pre ++ q' :: r :: rs) = (pre ++ q' :: r :: rs, true) := by
      rw [hlist]
      exact refuseWraps_head (hskip htaken) hr hrwraps
    rw [hlane, advance_of_refuseWraps hhead]
    exact ⟨rfl, rfl⟩

/-! ### The Issue Arbiter (R19) -/

/-- The lanes from one on: lane m is the (m − last − 1)-th of the round. -/
theorem find?_roundRobin {p : Tag → Bool} {last m : Tag} :
    (roundRobin last).find? p = some m ↔ p m = true ∧ ∀ n : Tag, p n = true → m - (last + 1) ≤ n - (last + 1) := by
  have hturn (n : Tag) : last + 1 + (n - (last + 1)) = n := add_sub_cancel _ _
  rw [roundRobin, List.find?_map, Option.map_eq_some_iff]
  constructor
  · rintro ⟨k, hk, rfl⟩
    obtain ⟨hp, hmin⟩ := find?_finRange_eq_some_iff.1 hk
    have hback : last + 1 + k - (last + 1) = k := add_sub_cancel_left _ _
    refine ⟨hp, fun n hn => ?_⟩
    rw [hback]
    exact hmin _ (by simpa only [Function.comp_apply, hturn] using hn)
  · rintro ⟨hp, hmin⟩
    refine ⟨m - (last + 1), find?_finRange_eq_some_iff.2 ⟨?_, fun k hk => ?_⟩, hturn m⟩
    · simpa only [Function.comp_apply, hturn] using hp
    · have hback : last + 1 + k - (last + 1) = k := add_sub_cancel_left _ _
      have hle := hmin _ hk
      rwa [hback] at hle

theorem exec_laneSegmentGrant (h : s.Settled) : exec .laneSegmentGrant s = .next (grantNextLane s) := by
  change Host.Outcome.next (grantNextLane (settle s)) = _
  rw [settle_of_settled h]

theorem exec_parkReleaseGrant (h : s.Settled) : exec .parkReleaseGrant s = .next (grantRelease s) := by
  change Host.Outcome.next (grantRelease (settle s)) = _
  rw [settle_of_settled h]

theorem exec_copyRequestGrant (h : s.Settled) : exec .copyRequestGrant s = .next (grantCopy s) := by
  change Host.Outcome.next (grantCopy (settle s)) = _
  rw [settle_of_settled h]

theorem canIssue_of_full (h : 8 ≤ s.inFlight.length) : canIssue s = false := decide_eq_false (Nat.not_lt.2 h)

theorem isReleased_iff (e : ParkEntry) : e.isReleased = true ↔ ∃ a, e.condition = .released a := by
  unfold ParkEntry.isReleased
  split <;> simp_all

/-- A lane is granted only with room in flight, and while no copy request and no RELEASED word waits. -/
theorem laneTurn_iff : laneTurn s = true ↔
    s.inFlight.length < 8 ∧ s.copies = [] ∧ ¬ ∃ e ∈ s.park, ∃ a, e.condition = .released a := by
  simp only [laneTurn, canIssue, Bool.and_eq_true, decide_eq_true_eq, List.isEmpty_iff, Bool.not_eq_true', List.any_eq_false,
    isReleased_iff, not_exists, not_and, and_assoc]
  rfl

/-- Settles O11, by the round's order and the conditions of each grant. -/
theorem arbiterOrder : Obligations.ArbiterOrder := by
  refine fun s m => ⟨?_, fun hsettled hheld => ?_, fun hsettled hheld => ?_, fun hsettled hfull => ?_⟩
  · simp only [nextLane, find?_roundRobin, laneCandidate, decide_eq_true_eq]
    rfl
  · have hturn : laneTurn s = false := by
      rw [← Bool.not_eq_true, laneTurn_iff]
      rintro ⟨hroom, hcopies, hpark⟩
      rcases hheld with hheld | hheld | hheld
      · exact hheld hcopies
      · exact hpark hheld
      · omega
    rw [exec_laneSegmentGrant hsettled, grantNextLane_notTurn hturn]
  · have hturn : (canIssue s && s.copies.isEmpty) = false := by
      rcases hheld with hcopies | hfull
      · rw [Bool.and_eq_false_iff]
        exact .inr (by rw [List.isEmpty_eq_false_iff]; exact hcopies)
      · rw [canIssue_of_full hfull]; rfl
    rw [exec_parkReleaseGrant hsettled, grantRelease, hturn]
    rfl
  · rw [exec_copyRequestGrant hsettled, grantCopy]
    split
    · rfl
    · rw [canIssue_of_full hfull]; rfl

/-! ### Offers and grants in general -/

/-- The segment offered meets the decision of its owner (R14). -/
theorem exec_segmentOffer (h : Offered s m q g) :
    exec (.segmentOffer m) s = .next (carryOut m q g (decideSegment s m q g) s) := by
  obtain ⟨hphase, hhead⟩ := h
  change Host.Outcome.next (if offerDue s m then offer m s else s) = _
  have hdue : offerDue s m = true := decide_eq_true hphase
  rw [if_pos hdue, offer, hhead]

/-- The segment granted is judged, and the lanes after it in the round remain. -/
theorem exec_granted (h : Granted s m q g) : ∃ pre post, roundRobin s.lastIssueLane = pre ++ m :: post
    ∧ exec .laneSegmentGrant s = .next (grantLane (grantAgain (grantRound post)) m s) := by
  obtain ⟨hsettled, hturn, hnext, -⟩ := h
  obtain ⟨pre, post, hround, hgrant⟩ := grantNextLane_first hturn hnext
  exact ⟨pre, post, hround, by rw [exec_laneSegmentGrant hsettled, hgrant]⟩

/-- A segment judged as one to issue is issued (R13). -/
theorem exec_granted_issue {how : IssueKind} (h : Granted s m q g) (hdecide : decideSegment s m q g = .issue how) :
    exec .laneSegmentGrant s = .next (issueSegment m q g how { s with lastIssueLane := m }) := by
  obtain ⟨pre, post, -, hgrant⟩ := exec_granted h
  obtain ⟨-, -, -, hhead⟩ := h
  rw [hgrant, grantLane_issue _ hhead hdecide]

theorem setPhase_eq (m : Tag) (ph : HeadPhase) (s : State) :
    setPhase m ph s = { s with lanes := s.lanes.set m { s.lanes[m] with phase := ph } } := rfl

theorem takeWords_lanes_congr (m : Tag) (fates : List WordState) {s t : State} (h : t.lanes = s.lanes) :
    (takeWords m fates t).lanes = (takeWords m fates s).lanes := by
  rw [takeWords_lanes, takeWords_lanes, h]

theorem issueRead_lanes (addr : WordAddr) (guard : GuardStatus) (origin : Option GuardReadOrigin)
    (overlay : List WriteWord) (s : State) :
    (issueRead m q g addr guard origin overlay s).lanes = (takeWords m (List.replicate g.length (.pending guard)) s).lanes :=
  takeWords_lanes_congr (t := issue _ s) m _ rfl

theorem issueWrite_lanes (addr : WordAddr) (origin : Option GuardWriteOrigin) (s : State) :
    (issueWrite m q g addr origin s).lanes = (takeWords m (List.replicate g.length (.pending .plain)) s).lanes :=
  takeWords_lanes_congr (t := issue _ s) m _ rfl

theorem decideSegment_passes (h : Passes s g) : decideSegment s m q g = .issue .plain := by
  rcases h with hcls | ⟨w, r, hcls⟩ | ⟨w, k, hcls, hopen⟩
  · simp only [decideSegment, hcls]
  · simp only [decideSegment, hcls]
  · simp only [decideSegment, hcls, decideBankRange, hopen]

/-- Settles O12: a segment that passes is decided as issue, and issued unchanged. -/
theorem passingSegmentIsIssued : Obligations.PassingSegmentIsIssued := by
  intro s m q g hpasses
  refine ⟨fun hoffered => ?_, fun hgranted => ?_⟩
  · rw [exec_segmentOffer hoffered, decideSegment_passes hpasses]
    rfl
  · let u : State := { s with lastIssueLane := m }
    refine ⟨issuePlain m q g u, exec_granted_issue hgranted (decideSegment_passes hpasses), fun n hbody => ?_,
      fun ws hbody => ?_, ?_, ?_, ?_⟩
    · simp only [issuePlain, hbody]
      exact issueRead_inFlight _ _ _ _ u
    · simp only [issuePlain, hbody]
      refine (issueWrite_inFlight _ _ u).trans ?_
      simp only [requestWords, hbody, segmentWords]
      rfl
    · unfold issuePlain
      split
      · exact (issueRead_lanes _ _ _ _ u).trans (takeWords_lanes_congr (t := u) m _ rfl)
      · exact (issueWrite_lanes _ _ u).trans (takeWords_lanes_congr (t := u) m _ rfl)
    · rw [issuePlain_writes]
    · exact issuePlain_writes m q g u

/-! ### Copy requests (R124, R127) -/

theorem reoffer_unissuedCopy (w : WindowNo) (r : Nat) (l : Lane) :
    l.reoffer (fun x => decide (x = .unissuedCopy w r))
      = if l.phase = .stalled (.unissuedCopy w r) then { l with phase := .toOffer } else l := by
  unfold Lane.reoffer
  split
  next why hphase => simp [hphase]
  all_goals next hphase => simp [hphase]

/-- Settles O18: the oldest request is issued, and the writes behind its copy are offered again. -/
theorem copyGrantIssuesOldest : Obligations.CopyGrantIssuesOldest := by
  intro s k ks hsettled hcopies hroom
  have hissue : canIssue s = true := decide_eq_true hroom
  have hgrant : grantCopy s = copyMoved k.window k.record (issue k.toInFlight { s with copies := ks }) := by
    simp only [grantCopy, hcopies, hissue, if_true]
  refine ⟨_, exec_copyRequestGrant hsettled, ?_⟩
  rw [hgrant]
  refine ⟨rfl, rfl, fun m => ?_, rfl⟩
  refine Eq.trans ?_ (reoffer_unissuedCopy k.window k.record s.lanes[m])
  exact getElem_tableMap _ _ m

/-! ### Delivery (R2, R3, R6, R7) -/

theorem writeStatus_eq_fault (ws : List WordState) : writeStatus ws = .fault ↔ ∃ x ∈ ws, x.beat.status = .fault := by
  simp only [writeStatus]
  split
  next h => simpa using h
  next h => simpa using h

/-- Settles O27: the granted lane's oldest request leaves, and the arbiter grants again. -/
theorem deliveryInOrder : Obligations.DeliveryInOrder := by
  intro s m q qs hsettled hgranted hqueue hcomplete
  let u : State := { s.setLane m { s.lanes[m] with reqs := qs } with
    delivered := some (q.response m), lastResponseLane := m, responseGrant := none }
  have hdeliver : deliver s = grantResponse u := by
    simp only [deliver, hgranted, hqueue, hcomplete, if_true]
    rfl
  have hexec : exec .responseDelivery s = .next (grantResponse u) := by
    change Host.Outcome.next (deliver (settle s)) = _
    rw [settle_of_settled hsettled, hdeliver]
  have hgrant : grantResponse u = { u with
      responseGrant := (roundRobin m).find? fun n => (s.lanes.set m { s.lanes[m] with reqs := qs })[n].hasResponse } := rfl
  refine ⟨_, hexec, ?_⟩
  rw [hgrant]
  refine ⟨rfl, fun n hbody => ?_, fun ws hbody => ⟨writeStatus q.words, ?_, writeStatus_eq_fault _⟩, rfl, rfl, rfl⟩
  · simp only [u, Request.response, hbody]
  · simp only [u, Request.response, hbody]

end

end Sys2Proof.Machine
end

section
/-! SUPPORT. Reports one after another, and the tick (chapters 8 and 9): statements O28, O29, O35 and O36. -/

namespace Sys2Proof.Machine

open Sys2Proof.Statements

section
variable {s t u : State} {r : Report} {rs rs' : List Report}

/-! ### Reports one after another -/

theorem report_timeBase (r : Report) (s : State) : (report r s).timeBase = s.timeBase := by rw [report_writes]

theorem foldl_report_timeBase (rs : List Report) (s : State) :
    (rs.foldl (fun u r => report r u) s).timeBase = s.timeBase := by
  induction rs generalizing s with
  | nil => rfl
  | cons r rs ih => exact (ih _).trans (report_timeBase r s)

/-- Where the Event Unit, ALERT_N and the time base stand as in s, reports leave the former two as they leave those of s. -/
theorem reportedAll_of_agree (rs : List Report) (hevents : u.events = s.events) (hlow : u.alertLow = s.alertLow)
    (htime : u.timeBase = s.timeBase) : ReportedAll rs s (rs.foldl (fun u r => report r u) u) := by
  induction rs generalizing s u with
  | nil => exact ⟨hevents, hlow⟩
  | cons r rs ih =>
    obtain ⟨he, ha⟩ := reported_of_agree r hevents hlow htime
    exact ih he ha (by rw [report_timeBase, report_timeBase, htime])

theorem reportedAll_nil (hevents : t.events = s.events) (hlow : t.alertLow = s.alertLow) : ReportedAll [] s t :=
  ⟨hevents, hlow⟩

/-- Reports follow reports. -/
theorem reportedAll_append (h : ReportedAll rs s t) (htime : t.timeBase = s.timeBase) (k : ReportedAll rs' t u) :
    ReportedAll (rs ++ rs') s u := by
  have hagree := reportedAll_of_agree (s := rs.foldl (fun u r => report r u) s) (u := t) rs' h.1 h.2
    (htime.trans (foldl_report_timeBase rs s).symm)
  unfold ReportedAll at k ⊢
  rw [List.foldl_append, k.1, k.2]
  exact hagree

/-- The Event Unit and ALERT_N of t say what was reported. -/
theorem reportedAll_congr (h : ReportedAll rs s t) (hevents : u.events = t.events) (hlow : u.alertLow = t.alertLow) :
    ReportedAll rs s u := ⟨hevents.trans h.1, hlow.trans h.2⟩

/-- Reports are taken by the Event Unit, ALERT_N and the time base of s alone. -/
theorem reportedAll_of_state (h : ReportedAll rs u t) (hevents : u.events = s.events) (hlow : u.alertLow = s.alertLow)
    (htime : u.timeBase = s.timeBase) : ReportedAll rs s t :=
  reportedAll_congr (reportedAll_of_agree rs hevents hlow htime) h.1 h.2

/-! ### The alert age countdown under reports (R155) -/

/-- The event control stands, and the age countdown stands or is loaded as the first record joins. -/
def AgeFollows (u v : EventUnit) : Prop :=
  v.control = u.control ∧ (u.queue ≠ [] → v.queue ≠ [] ∧ v.age = u.age)
    ∧ (u.queue = [] → v.age = if v.queue = [] then u.age else u.control.latency)

theorem AgeFollows.refl (u : EventUnit) : AgeFollows u u := ⟨rfl, fun h => ⟨h, rfl⟩, fun h => by rw [if_pos h]⟩

theorem AgeFollows.trans {u v x : EventUnit} (h : AgeFollows u v) (k : AgeFollows v x) : AgeFollows u x := by
  obtain ⟨hc, hq, he⟩ := h
  obtain ⟨kc, kq, ke⟩ := k
  refine ⟨kc.trans hc, fun hqueue => ?_, fun hempty => ?_⟩
  · obtain ⟨hv, hage⟩ := hq hqueue
    obtain ⟨hx, kage⟩ := kq hv
    exact ⟨hx, kage.trans hage⟩
  · have hage := he hempty
    by_cases hv : v.queue = []
    · rw [if_pos hv] at hage
      rw [ke hv, hage, hc]
    · rw [if_neg hv] at hage
      obtain ⟨hx, kage⟩ := kq hv
      rw [if_neg hx, kage, hage]

theorem ageFollows_append (u : EventUnit) (e : EventRecord) (es : List EventRecord) : AgeFollows u (u.append (e :: es)) := by
  refine ⟨rfl, fun hqueue => ⟨by simp [EventUnit.append], ?_⟩, fun hempty => ?_⟩
  · simp [EventUnit.append, hqueue]
  · simp [EventUnit.append, hempty]

theorem ageFollows_enqueue (u : EventUnit) (now : BitVec 32) (r : Report) : AgeFollows u (u.enqueue now r) := by
  unfold EventUnit.enqueue
  split
  next e hmerge =>
    refine ⟨rfl, fun _ => ⟨by simp, rfl⟩, fun hempty => absurd hempty (mergeTarget_queue hmerge)⟩
  next =>
    dsimp only
    split
    · split
      · exact ageFollows_append u _ _
      · exact AgeFollows.refl u
    · split
      · exact ageFollows_append u _ _
      · exact AgeFollows.refl u

theorem ageFollows_report (r : Report) (s : State) : AgeFollows s.events (report r s).events := by
  unfold report
  split
  · exact ageFollows_enqueue _ _ _
  · exact .refl _

/-! ### Sweeps requested by matches (R140) -/

theorem hasBit_joinBit (x : BitVec 16) (v w : WindowNo) : hasBit (joinBit x v) w = (hasBit x w || decide (v = w)) := by
  simp only [hasBit, joinBit, BitVec.getLsbD_or, BitVec.getLsbD_twoPow, Fin.ext_iff, v.isLt, decide_true,
    Bool.true_and]

/-- Window w is pending, or its sweep runs: a match is an overrun (R140). -/
def sweepBusy (s : State) (w : WindowNo) : Bool :=
  hasBit s.pendingSweeps w || s.sweep.any fun x => decide (x.window = w)

theorem requestSweep_busy {w : WindowNo} (h : sweepBusy s w = true) : requestSweep w s = report (overrunReport w) s :=
  if_pos (by rwa [sweepBusy, Bool.or_eq_true] at h)

theorem requestSweep_idle {w : WindowNo} (h : sweepBusy s w = false) :
    requestSweep w s = { s with pendingSweeps := joinBit s.pendingSweeps w } :=
  if_neg (by rw [sweepBusy, ← Bool.not_eq_true, Bool.or_eq_true] at h; exact h)

theorem report_pendingSweeps (r : Report) (s : State) : (report r s).pendingSweeps = s.pendingSweeps := by rw [report_writes]
theorem report_sweep (r : Report) (s : State) : (report r s).sweep = s.sweep := by rw [report_writes]

/-- Of different windows that match, the idle ones join the pending set and the others report an overrun each. -/
theorem requestSweeps_spec {ws : List WindowNo} (hnodup : ws.Nodup) (s : State) :
    (∀ w : WindowNo, hasBit (requestSweeps ws s).pendingSweeps w = (hasBit s.pendingSweeps w || (decide (w ∈ ws) && !sweepBusy s w)))
      ∧ ReportedAll ((ws.filter (sweepBusy s)).map overrunReport) s (requestSweeps ws s) := by
  induction ws generalizing s with
  | nil => exact ⟨fun w => by simp [requestSweeps], reportedAll_nil rfl rfl⟩
  | cons v ws ih =>
    obtain ⟨hfresh, hnodup⟩ := List.nodup_cons.1 hnodup
    simp only [requestSweeps]
    cases hbusy : sweepBusy s v with
    | true =>
      rw [requestSweep_busy hbusy]
      have hsame (w : WindowNo) : sweepBusy (report (overrunReport v) s) w = sweepBusy s w := by
        rw [sweepBusy, report_pendingSweeps, report_sweep, sweepBusy]
      obtain ⟨hpending, hreported⟩ := ih hnodup (report (overrunReport v) s)
      refine ⟨fun w => ?_, ?_⟩
      · rw [hpending, hsame, report_pendingSweeps]
        by_cases hvw : w = v
        · subst hvw
          simp [hbusy]
        · simp [hvw]
      · have hfilter : ws.filter (sweepBusy (report (overrunReport v) s)) = ws.filter (sweepBusy s) :=
          List.filter_congr fun w _ => hsame w
        rw [hfilter] at hreported
        rw [List.filter_cons_of_pos hbusy]
        have hfirst : ReportedAll [overrunReport v] s (report (overrunReport v) s) := ⟨rfl, rfl⟩
        exact reportedAll_append hfirst (report_timeBase _ _) hreported
    | false =>
      rw [requestSweep_idle hbusy]
      let u : State := { s with pendingSweeps := joinBit s.pendingSweeps v }
      have hother (w : WindowNo) (hw : w ≠ v) : sweepBusy u w = sweepBusy s w := by
        simp [sweepBusy, u, hasBit_joinBit, hw.symm]
      obtain ⟨hpending, hreported⟩ := ih hnodup u
      refine ⟨fun w => ?_, ?_⟩
      · rw [hpending]
        by_cases hvw : w = v
        · subst hvw
          simp [u, hasBit_joinBit, hbusy]
        · rw [hother w hvw]
          simp [u, hasBit_joinBit, hvw, Ne.symm hvw]
      · have hfilter : ws.filter (sweepBusy u) = ws.filter (sweepBusy s) :=
          List.filter_congr fun w hw => hother w fun h => hfresh (h ▸ hw)
        rw [hfilter] at hreported
        rw [List.filter_cons_of_neg (by rw [hbusy]; decide)]
        exact reportedAll_of_state hreported rfl rfl rfl

theorem ageFollows_requestSweeps (ws : List WindowNo) (s : State) : AgeFollows s.events (requestSweeps ws s).events := by
  induction ws generalizing s with
  | nil => exact .refl _
  | cons w ws ih =>
    refine .trans ?_ (ih (requestSweep w s))
    unfold requestSweep
    split
    · exact ageFollows_report _ s
    · exact .refl _

/-! ### The tick (R136 to R140) -/

theorem exec_tick_running (h : s.Settled) (hreset : s.resetLow = false) (hrun : s.timeBase.run = .running) :
    exec .tick s = .next (tickStep s) := by
  change Host.Outcome.next (if s.resetLow then s else if s.timeBase.run = .running then tickStep (settle s) else s) = _
  rw [hreset, hrun, settle_of_settled h]
  rfl

theorem exec_tick_stopped (hrun : s.timeBase.run = .stopped) : exec .tick s = .next s := by
  change Host.Outcome.next (if s.resetLow then s else if s.timeBase.run = .running then tickStep (settle s) else s) = _
  rw [hrun]
  split <;> rfl

/-- The part at the new value, its comparators' live fields changed, before any sweep is requested. -/
def comparedState (s : State) : State :=
  { (advanceTime s).drawn with
    windows := tableMap (fun _ x => if x.matchesAt (s.timeBase.value + 1) then x.matched else x) (advanceTime s).windows }

/-- The windows that match at the tick, in the free order of their requests (log 10). -/
def matchedWindows (s : State) : List WindowNo :=
  freeOrder s.freeCount (tableAll (Window.matchesAt (s.timeBase.value + 1)) (advanceTime s).windows)

theorem tickStep_eq (s : State) : tickStep s = requestSweeps (matchedWindows s) (comparedState s) := rfl

theorem tickStep_frame (s : State) : tickStep s = { comparedState s with
    pendingSweeps := (tickStep s).pendingSweeps, events := (tickStep s).events, alertLow := (tickStep s).alertLow } := by
  rw [tickStep_eq]
  exact requestSweeps_writes _ _

theorem windowTick_fresh (x : Window) : x.tick.curFresh = x.curFresh ∧ x.tick.curDeadline = x.curDeadline := by
  unfold Window.tick
  split
  next => split <;> exact ⟨rfl, rfl⟩
  all_goals exact ⟨rfl, rfl⟩

/-- The comparator of a window is armed and its deadline is the given value (R139). -/
theorem matchesAt_iff (now : BitVec 32) (x : Window) :
    x.matchesAt now = true ↔ x.decoded = true ∧ x.curFresh ≠ .off ∧ x.curDeadline = now := by
  simp only [Window.matchesAt, Bool.and_eq_true, decide_eq_true_eq, and_assoc]

theorem matchesAt_tick (now : BitVec 32) (x : Window) : x.tick.matchesAt now = x.matchesAt now := by
  obtain ⟨hfresh, hdeadline⟩ := windowTick_fresh x
  simp only [Window.matchesAt, (windowTick_spec x).2, hfresh, hdeadline]

theorem mem_matchedWindows (w : WindowNo) :
    w ∈ matchedWindows s ↔ s.windows[w].matchesAt (s.timeBase.value + 1) = true := by
  rw [matchedWindows, mem_freeOrder, mem_tableAll]
  have hwindow : (advanceTime s).windows[w] = s.windows[w].tick := getElem_tableMap _ _ w
  rw [hwindow, matchesAt_tick]

theorem matchedWindows_nodup (s : State) : (matchedWindows s).Nodup := freeOrder_nodup (tableAll_nodup _ _)

theorem tickStep_window (w : WindowNo) (s : State) : (tickStep s).windows[w] =
    if s.windows[w].matchesAt (s.timeBase.value + 1) then s.windows[w].tick.matched else s.windows[w].tick := by
  have hwindows : (tickStep s).windows = (comparedState s).windows := by
    have h := congrArg State.windows (tickStep_frame s)
    exact h
  have hwindow : (advanceTime s).windows[w] = s.windows[w].tick := getElem_tableMap _ _ w
  rw [hwindows]
  refine (getElem_tableMap _ _ w).trans ?_
  rw [hwindow, matchesAt_tick]

theorem matched_state (x : Window) : x.matched.state = x.state := by
  unfold Window.matched
  split <;> rfl

theorem tickStep_windowState (w : WindowNo) (s : State) :
    (tickStep s).windows[w].state = s.windows[w].tick.state ∧ (tickStep s).windows[w].cfg = s.windows[w].cfg := by
  rw [tickStep_window]
  split
  · exact ⟨matched_state _, (matched_spec _).1.trans (windowTick_spec _).1⟩
  · exact ⟨rfl, (windowTick_spec _).1⟩

/-- The Event Unit at the new value, before any report of the tick. -/
theorem tick_events (u : EventUnit) : u.tick = { u with
    age := if u.control.latency ≠ 0 ∧ u.queue ≠ [] then countDown u.age else u.age } := by
  simp only [EventUnit.tick, List.isEmpty_eq_false_iff]
  split <;> rfl

theorem tickStep_ageFollows (s : State) : AgeFollows s.events.tick (tickStep s).events :=
  ageFollows_requestSweeps (matchedWindows s) (comparedState s)

theorem holdTick_eq (limit : BitVec 16) (h : Hold) : h.tick limit =
    if (h.state = .opened ∧ limit ≠ 0) ∨ (h.state = .broken ∧ h.slot = none) then
      { h with countdown := countDown h.countdown }
    else h := by
  unfold Hold.tick
  cases hstate : h.state with
  | free => simp
  | copying => simp
  | opened => by_cases hlimit : limit = 0 <;> simp [hlimit]
  | broken => by_cases hslot : h.slot = none <;> simp [hslot]

/-- Settles O28, table by table; the Event Unit's age countdown runs before the reports of the tick. -/
theorem tickCountsDown : Obligations.TickCountsDown := by
  intro s hsettled hreset
  refine ⟨fun hstopped => exec_tick_stopped hstopped, fun hrun => ⟨tickStep s, exec_tick_running hsettled hreset hrun, ?_⟩⟩
  have hframe := tickStep_frame s
  have hholds : (tickStep s).holds = tableMap (fun _ h => h.tick (s.cfg h.window).holdLimit) s.holds := by
    have h := congrArg State.holds hframe
    exact h
  have hfills : (tickStep s).fills = tableMap (fun _ x => x.tick (s.cfg x.window).fillLimit) s.fills := by
    have h := congrArg State.fills hframe
    exact h
  obtain ⟨hcontrol, hunread, hempty⟩ := tickStep_ageFollows s
  rw [tick_control] at hcontrol
  rw [tick_queue] at hunread hempty
  refine ⟨?_, fun i => ?_, fun f => ?_, fun w n hdrains => ?_, fun w hstill => ?_, fun w => (tickStep_windowState w s).2, hcontrol,
    fun hqueue => ?_, fun hqueue => ?_, tickStep_writes s⟩
  · have h := congrArg State.timeBase hframe
    exact h
  · rw [hholds, getElem_tableMap]
    exact holdTick_eq _ _
  · rw [hfills, getElem_tableMap]
    rfl
  · rw [(tickStep_windowState w s).1]
    simp only [Window.tick, hdrains, Bool.false_eq_true, if_false]
  · rw [(tickStep_windowState w s).1]
    unfold Window.tick
    split
    next n forced hdrains =>
      cases forced with
      | true => rfl
      | false => exact absurd hdrains (hstill n)
    all_goals rfl
  · rw [(hunread hqueue).2, tick_events]
    by_cases hlatency : s.events.control.latency = 0 <;> simp [hlatency, hqueue]
  · rw [hempty hqueue, tick_control, tick_events]
    simp [hqueue]

/-- Settles O29: a window's comparator matches on its live fields alone, and what its match requests is by `requestSweeps_spec`. -/
theorem tickMatchesDeadlines : Obligations.TickMatchesDeadlines := by
  intro s t hsettled hreset hrun hexec
  rw [exec_tick_running hsettled hreset hrun] at hexec
  cases hexec
  dsimp only
  have hhit (w : WindowNo) := matchesAt_iff (s.timeBase.value + 1) s.windows[w]
  have hswept (w : WindowNo) : (s.sweep.any fun x => decide (x.window = w)) = true ↔ ∃ x, s.sweep = some x ∧ x.window = w := by
    simp [Option.any_eq_true]
  have hbusy (w : WindowNo) : sweepBusy (comparedState s) w = true ↔
      hasBit s.pendingSweeps w = true ∨ ∃ x, s.sweep = some x ∧ x.window = w := by
    rw [← hswept, ← Bool.or_eq_true]
    rfl
  obtain ⟨hpending, hreported⟩ := requestSweeps_spec (matchedWindows_nodup s) (comparedState s)
  refine ⟨fun w => ?_, (matchedWindows s).filter (sweepBusy (comparedState s)), (matchedWindows_nodup s).filter _, fun w => ?_, ?_⟩
  · obtain ⟨hfresh, hdeadline⟩ := windowTick_fresh s.windows[w]
    refine ⟨fun hit hrepeats => ?_, fun hit honce => ?_, fun hmiss => ?_, ?_⟩
    · rw [tickStep_window, if_pos ((hhit w).2 hit)]
      simp only [Window.matched, hfresh, hrepeats, hdeadline, (windowTick_spec _).1]
      exact ⟨rfl, trivial⟩
    · rw [tickStep_window, if_pos ((hhit w).2 hit)]
      simp only [Window.matched, hfresh, honce, hdeadline]
      exact ⟨trivial, trivial⟩
    · rw [tickStep_window, if_neg fun h => hmiss ((hhit w).1 h)]
      exact ⟨hdeadline, hfresh⟩
    · have hset := hpending w
      rw [← tickStep_eq] at hset
      have hkept : (comparedState s).pendingSweeps = s.pendingSweeps := rfl
      rw [hset, hkept, Bool.or_eq_true, Bool.and_eq_true, decide_eq_true_eq, mem_matchedWindows, hhit, Bool.not_eq_true',
        ← Bool.not_eq_true, hbusy]
      by_cases hp : hasBit s.pendingSweeps w = true
      · simp only [hp, true_or]
      · simp only [hp, false_or, Bool.false_eq_true]
  · rw [List.mem_filter, mem_matchedWindows, hhit, hbusy]
  · have htime : (tickStep s).timeBase = (comparedState s).timeBase := by
      have h := congrArg State.timeBase (tickStep_frame s)
      exact h
    exact reportedAll_of_state hreported (tick_events s.events) rfl htime.symm

/-! ### Sweeps (R141 to R143) -/

theorem visited_eq (x : Sweep) (fresh : Bool) : x.visited (!fresh) =
    if fresh then ⟨x.window, x.next + 1, x.staleCount, x.firstStale⟩
    else ⟨x.window, x.next + 1, x.staleCount + 1, some (x.firstStale.getD x.next)⟩ := by
  cases fresh <;> rfl

/-- Settles O35: one entry's flags change, and the sweep goes on or ends. -/
theorem sweepVisitMarks : Obligations.SweepVisitMarks := by
  intro s x hsettled hwf hsweep
  let i := (s.cfg x.window).dirIndex x.next
  let e := dirGet s.directory i
  obtain ⟨y, hy⟩ : ∃ y, y = x.visited (!e.fresh) := ⟨_, rfl⟩
  let u := s.setDir i (visitedEntry e)
  have hexec : exec .sweepVisit s = .next (endSweep y u) := by
    change Host.Outcome.next (visitSweep (settle s)) = _
    rw [settle_of_settled hsettled]
    simp only [visitSweep, hsweep, hy]
    rfl
  have hwindow : y.window = x.window ∧ y.next = x.next + 1 := by
    rw [hy]
    simp only [Sweep.visited]
    split <;> exact ⟨rfl, rfl⟩
  have hdirectory : (endSweep y u).directory = dirPut i (visitedEntry e) s.directory := by
    rw [endSweep_writes]
    rfl
  have hget (j : Nat) : dirGet (endSweep y u).directory j = if i = j then visitedEntry e else dirGet s.directory j := by
    rw [hdirectory, dirGet_dirPut hwf]
  have hcount : (u.cfg y.window).count.toNat ≤ y.next ↔ (s.cfg x.window).count.toNat ≤ x.next + 1 := by
    rw [hwindow.1, hwindow.2]
    rfl
  have hvisited := visited_eq x e.fresh
  dsimp only
  rw [← hvisited, ← hy]
  refine ⟨endSweep y u, hexec, ?_, fun j hj => ?_, fun hgoes => ?_, fun hends => ⟨?_, ?_⟩, ?_⟩
  · rw [hget, if_pos rfl]
    rfl
  · rw [hget, if_neg (Ne.symm hj)]
  · have hon : ¬ (u.cfg y.window).count.toNat ≤ y.next := fun h => absurd (hcount.1 h) (Nat.not_le.2 hgoes)
    rw [endSweep, if_neg hon]
    exact ⟨rfl, reportedAll_nil rfl rfl⟩
  · rw [endSweep, if_pos (hcount.2 hends)]
    dsimp only
    split
    · exact report_sweep _ _
    · rfl
  · have hstale : staleSweepReport y = ⟨.staleSweep, some x.window, y.firstStale, none, none, .ofNat 16 y.staleCount⟩ := by
      rw [staleSweepReport, hwindow.1]
    rw [endSweep, if_pos (hcount.2 hends)]
    dsimp only
    split
    next =>
      rw [hstale]
      exact reported_of_agree _ rfl rfl rfl
    next =>
      exact reportedAll_nil rfl rfl
  · rw [endSweep_writes]
    rfl

/-! ### The completion of a drain (R173) -/

theorem completeDrain_holds (w : WindowNo) (s : State) :
    (completeDrain w s).holds = tableMap (fun _ h => h.leaveService w) s.holds := by
  simp only [completeDrain]
  rw [recut_writes, report_writes]
  rfl

theorem completeDrain_sweeps (w : WindowNo) (s : State) :
    (completeDrain w s).pendingSweeps = s.pendingSweeps &&& ~~~ BitVec.twoPow 16 w.val
      ∧ (completeDrain w s).sweep = s.sweep.filter fun x => decide (x.window ≠ w) := by
  simp only [completeDrain]
  rw [recut_writes, report_writes]
  exact ⟨rfl, rfl⟩

theorem leaveService_eq (w : WindowNo) (h : Hold) : h.leaveService w =
    if h.window = w ∧ h.state = .broken then (if h.slot = none then .cleared else { h with leftService := true }) else h := by
  unfold Hold.leaveService
  by_cases hw : h.window = w
  · cases hstate : h.state <;> simp [hw]
  · simp [hw]

theorem isDraining_of_state {x : Window} {n : BitVec 16} {forced : Bool} (h : x.state = .draining n forced) :
    x.isDraining = true := by simp only [Window.isDraining, h]

/-- Settles O36: a DRAINING window with nothing that holds it back passes the test. -/
theorem drainCompletes : Obligations.DrainCompletes := by
  intro s w n forced hdrains hholds hfills hpark
  have hcomplete := (windowComplete_iff s w).2 ⟨hholds, hfills, hpark⟩
  have hexec : exec (.drainCompletion w) s = .next (completeDrain w s) := by
    change Host.Outcome.next (drainTest w s) = _
    rw [drainTest_of_complete (isDraining_of_state hdrains) hcomplete]
  obtain ⟨hpending, hsweep⟩ := completeDrain_sweeps w s
  refine ⟨_, hexec, completeDrain_windows w s, fun i => ?_, hpending, hsweep, reported_completeDrain w rfl rfl rfl,
    sameRequests_completeDrain w s, completeDrain_writes w s⟩
  rw [completeDrain_holds, getElem_tableMap, leaveService_eq]

end

end Sys2Proof.Machine
end

section
/-! SUPPORT. What the shared operations on holds and fills leave behind, in the words of the statements: tests of a WAITING
fill (R66, R79), slots that become FREE (R132), broken entries (R59, R63), closed holds (R57, R58), abandoned fills (R84). -/

namespace Sys2Proof.Machine

open Sys2Proof.Statements

section
variable {s t u : State} {w : WindowNo} {r : Nat} {m : Tag}

/-! ### The drain test of a window that does not drain -/

theorem drainTest_of_not_draining (h : s.windows[w].isDraining = false) : drainTest w s = s := by
  rw [drainTest, h]
  rfl

theorem isDraining_of_live {x : Window} (h : x.state = .live) : x.isDraining = false := by simp only [Window.isDraining, h]

/-- A window in service that does not drain is not tested. -/
theorem drainTest_of_live (h : s.windows = u.windows) (hlive : Live u w) : drainTest w s = s :=
  drainTest_of_not_draining (isDraining_of_live (by rw [h]; exact hlive))

/-! ### Where a fill may be ACTIVE (R94, R112, R114) -/

theorem openOn_iff (i : HoldNo) : OpenOn s w r i ↔ s.holds[i].isOpenOn w r = true := (isOpenOn_iff _ _ _).symm

theorem pinsOf_isEmpty (k : Bank) : (pinsOf s w r k).isEmpty = true ↔ ∀ i, OpenOn s w r i → s.holds[i].pinnedBank ≠ some k := by
  rw [pinsOf, tableAll_isEmpty]
  simp only [openOn_iff, Bool.and_eq_false_imp, decide_eq_false_iff_not]

theorem spare_iff (k : Bank) : Spare s w r k ↔ k ∈ spareBanks s w r := by
  simp only [Spare, spareBanks, List.mem_filter, Bool.and_eq_true, decide_eq_true_eq, pinsOf_isEmpty]

theorem spareBanks_head? (k : Bank) :
    (spareBanks s w r).head? = some k ↔ Spare s w r k ∧ ∀ j, Spare s w r j → k ≤ j := by
  have hbanks : spareBanks s w r = (List.finRange 3).filter fun k => decide (k ∈ spareBanks s w r) := by
    by_cases hmode : (s.cfg w).mode = .banked
    · simp only [spareBanks, WinConfig.usedBanks, hmode, if_true, List.filter_filter]
      refine List.filter_congr fun k _ => ?_
      simp only [List.mem_filter, List.mem_finRange, true_and, Bool.and_eq_true, Bool.decide_and, Bool.decide_eq_true]
    · simp [spareBanks, WinConfig.usedBanks, hmode]
  rw [hbanks, List.head?_filter, find?_finRange_eq_some_iff]
  simp only [decide_eq_true_eq, ← spare_iff]

/-- The place of a fill is where the statements say it may be ACTIVE. -/
theorem fillPlace_iff (target : Option Bank) : fillPlace s w r m = some target ↔ MayBeActive s w r m target := by
  unfold fillPlace MayBeActive
  cases (s.cfg w).mode with
  | single =>
    have hothers : (otherOpenHolds s w r m).isEmpty = true ↔ ∀ i, OpenOn s w r i → s.holds[i].master = m := by
      rw [otherOpenHolds, tableAll_isEmpty]
      simp only [openOn_iff, Bool.and_eq_false_imp, decide_eq_false_iff_not, not_not]
    dsimp only
    rw [← hothers]
    split
    next h => simp [h, eq_comm]
    next h => simp [h]
  | banked =>
    dsimp only
    rw [Option.map_eq_some_iff]
    simp only [spareBanks_head?]
    exact ⟨fun ⟨k, hk, heq⟩ => ⟨k, heq.symm, hk⟩, fun ⟨k, heq, hk⟩ => ⟨k, hk, heq.symm⟩⟩
  | snap => simp [eq_comm]

theorem fillPlace_none : fillPlace s w r m = none ↔ ∀ target, ¬ MayBeActive s w r m target := by
  rw [Option.eq_none_iff_forall_ne_some]
  exact forall_congr' fun target => not_congr (fillPlace_iff target)

/-! ### A WAITING fill tested (R66, R79) -/

theorem releasedBy_eq (f : FillNo) (target : Option Bank) (e : ParkEntry) :
    e.releaseFor (fillRef s f) (s.cfg s.fills[f].window) target = releasedBy s ⟨f, s.fills[f].generation⟩ target e := by
  unfold ParkEntry.releaseFor releasedBy fillRef
  by_cases hfill : e.fill = some ⟨f, s.fills[f].generation⟩
  · cases hcondition : e.condition <;> simp [-Fin.getElem_fin, hfill]
  · simp only [hfill, false_and, if_false]

theorem activateFill_fills (f : FillNo) (target : Option Bank) (s : State) :
    (activateFill f target s).fills = s.fills.set f (activeFill s target s.fills[f]) := rfl

theorem activateFill_park (f : FillNo) (target : Option Bank) (s : State) :
    (activateFill f target s).park = s.park.map (releasedBy s ⟨f, s.fills[f].generation⟩ target) :=
  List.map_congr_left fun e _ => releasedBy_eq f target e

theorem tryActivate_of_active {f : FillNo} {target : Option Bank} (hopen : openFill s w r = some f)
    (hwaits : s.fills[f].state = .waiting) (hplace : MayBeActive s w r s.fills[f].owner target) :
    tryActivate w r s = activateFill f target s := by
  simp only [tryActivate, hopen, hwaits, if_true, (fillPlace_iff target).2 hplace]

theorem tryActivate_of_held (h : ∀ f, openFill s w r = some f → s.fills[f].state = .waiting →
    ∀ target, ¬ MayBeActive s w r s.fills[f].owner target) : tryActivate w r s = s := by
  unfold tryActivate
  split
  next => rfl
  next f hopen =>
    split
    next hwaits => rw [fillPlace_none.2 (h f hopen hwaits)]
    next => rfl

theorem tryActivate_of_none (h : openFill s w r = none) : tryActivate w r s = s := by rw [tryActivate, h]

/-- The test of a WAITING fill is what the statements say of it. -/
theorem fillTested_tryActivate (w : WindowNo) (r : Nat) (s : State) : FillTested s w r (tryActivate w r s) := by
  refine ⟨fun f target hopen hwaits hplace => ?_, fun hheld => ?_⟩
  · rw [tryActivate_of_active hopen hwaits hplace]
    exact ⟨activateFill_fills f target s, activateFill_park f target s⟩
  · rw [tryActivate_of_held hheld]
    exact ⟨rfl, rfl⟩

/-- The test reads windows, directory, holds, fills and the Park Queue alone. -/
theorem fillTested_congr {s' t' : State} (h : FillTested s w r t) (hwindows : s'.windows = s.windows)
    (hdirectory : s'.directory = s.directory) (hholds : s'.holds = s.holds) (hfills : s'.fills = s.fills)
    (hpark : s'.park = s.park) (hfills' : t'.fills = t.fills) (hpark' : t'.park = t.park) : FillTested s' w r t' := by
  have hplace (m : Tag) (target : Option Bank) : MayBeActive s' w r m target ↔ MayBeActive s w r m target := by
    simp only [MayBeActive, Spare, OpenOn, State.cfg, State.dirEntry, hwindows, hdirectory, hholds]
  have hactive (target : Option Bank) (x : Fill) : activeFill s' target x = activeFill s target x := by
    simp only [activeFill, State.cfg, hwindows]
  have hreleased (ref : FillRef) (target : Option Bank) : releasedBy s' ref target = releasedBy s ref target := by
    funext e
    simp only [releasedBy, State.cfg, hwindows, hfills]
  have hopen : openFill s' w r = openFill s w r := by simp only [openFill, hfills]
  unfold FillTested
  simp only [hopen, hplace, hactive, hreleased, hfills, hpark, hfills', hpark']
  exact h

theorem reofferWhen_lanesOnly (p : Stall → Bool) (s : State) :
    reofferWhen p s = { s with lanes := (reofferWhen p s).lanes } := rfl

theorem fillTested_leftOpen (w : WindowNo) (r : Nat) (s : State) : FillTested s w r (leftOpen w r s) :=
  fillTested_congr (fillTested_tryActivate w r (reofferWhen (Stall.isParkRoom w r) s)) rfl rfl rfl rfl rfl rfl rfl

/-- Without an open fill on the record, the fills and the Park Queue stand. -/
theorem leftOpen_of_none (h : openFill s w r = none) : (leftOpen w r s).fills = s.fills ∧ (leftOpen w r s).park = s.park := by
  have htest : tryActivate w r (reofferWhen (Stall.isParkRoom w r) s) = reofferWhen (Stall.isParkRoom w r) s :=
    tryActivate_of_none h
  rw [leftOpen, htest]
  exact ⟨rfl, rfl⟩

/-! ### Slots that become FREE (R132) -/

/-- Holds stay OPEN only with their slots, and each hold that has left OPEN has left its slot FREE. -/
def SlotStep (s t : State) : Prop :=
  SlotsFollow s t ∧ ∀ i : HoldNo, t.holds[i].state = .opened → s.holds[i].state = .opened ∧ t.holds[i].slot = s.holds[i].slot

theorem SlotStep.of_open (hslots : t.slots = s.slots)
    (hholds : ∀ i : HoldNo, (t.holds[i].state = .opened ↔ s.holds[i].state = .opened)
      ∧ (s.holds[i].state = .opened → t.holds[i].slot = s.holds[i].slot)) : SlotStep s t := by
  refine ⟨fun k => ⟨fun ⟨i, hopen, hleft, _⟩ => absurd ((hholds i).1.2 hopen) hleft, fun _ => by rw [hslots]⟩, fun i hi => ?_⟩
  have hopen := (hholds i).1.1 hi
  exact ⟨hopen, (hholds i).2 hopen⟩

theorem SlotStep.of_eq (hslots : t.slots = s.slots) (hholds : t.holds = s.holds) : SlotStep s t :=
  .of_open hslots fun i => by rw [hholds]; exact ⟨Iff.rfl, fun _ => rfl⟩

theorem SlotStep.trans (h : SlotStep s t) (k : SlotStep t u) : SlotStep s u := by
  obtain ⟨hslots, hopen⟩ := h
  obtain ⟨kslots, kopen⟩ := k
  refine ⟨fun j => ⟨fun ⟨i, hi, hleft, hslot⟩ => ?_, fun hnone => ?_⟩, fun i hi => ?_⟩
  · by_cases ht : t.holds[i].state = .opened
    · exact (kslots j).1 ⟨i, ht, hleft, (hopen i ht).2.trans hslot⟩
    · have hfree := (hslots j).1 ⟨i, hi, ht, hslot⟩
      by_cases hlater : ∃ i : HoldNo, t.holds[i].state = .opened ∧ u.holds[i].state ≠ .opened ∧ t.holds[i].slot = some j
      · exact (kslots j).1 hlater
      · exact ((kslots j).2 fun i hi => hlater ⟨i, hi⟩).trans hfree
  · have hfirst : t.slots[j] = s.slots[j] := (hslots j).2 fun i ⟨hi, hleft, hslot⟩ =>
      hnone i ⟨hi, fun hu => hleft (kopen i hu).1, hslot⟩
    refine ((kslots j).2 fun i ⟨ht, hleft, hslot⟩ => ?_).trans hfirst
    obtain ⟨hi, hsame⟩ := hopen i ht
    exact hnone i ⟨hi, hleft, hsame.symm.trans hslot⟩
  · obtain ⟨ht, hslot⟩ := kopen i hi
    obtain ⟨hs, hslot'⟩ := hopen i ht
    exact ⟨hs, hslot.trans hslot'⟩

theorem releaseSlot_slots (k : Option SlotNo) (s : State) (j : SlotNo) :
    (releaseSlot k s).slots[j] = if k = some j then .free else s.slots[j] := by
  cases k with
  | none => simp [releaseSlot]
  | some k =>
    simp only [releaseSlot, setSlot_slots, Option.some.injEq]
    exact getElem_set_fin _ _ _ _

/-- An OPEN hold leaves OPEN, and its slot is released. -/
theorem SlotStep.left {i : HoldNo} {x : Hold} (hopen : s.holds[i].state = .opened) (hx : x.state ≠ .opened)
    (hholds : t.holds = s.holds.set i x) (hslots : t.slots = (releaseSlot s.holds[i].slot s).slots) : SlotStep s t := by
  have hget (j : HoldNo) : t.holds[j] = if i = j then x else s.holds[j] := by rw [hholds]; exact getElem_set_fin _ _ _ _
  have hleaves (j : HoldNo) (hj : s.holds[j].state = .opened) (hleft : t.holds[j].state ≠ .opened) : i = j := by
    by_contra hij
    rw [hget, if_neg hij] at hleft
    exact hleft hj
  refine ⟨fun k => ⟨fun ⟨j, hj, hleft, hslot⟩ => ?_, fun hnone => ?_⟩, fun j hj => ?_⟩
  · have hij := hleaves j hj hleft
    subst hij
    rw [hslots, releaseSlot_slots, if_pos hslot]
  · rw [hslots, releaseSlot_slots, if_neg fun hslot => hnone i ⟨hopen, by rw [hget, if_pos rfl]; exact hx, hslot⟩]
  · rw [hget] at hj ⊢
    split at hj
    next => exact absurd hj hx
    next hij => rw [if_neg hij]; exact ⟨hj, rfl⟩

/-- An entry that is not OPEN changes, and does not become OPEN. -/
theorem SlotStep.closed {i : HoldNo} {x : Hold} (hclosed : s.holds[i].state ≠ .opened) (hx : x.state ≠ .opened)
    (hholds : t.holds = s.holds.set i x) (hslots : t.slots = s.slots) : SlotStep s t := by
  refine .of_open hslots fun j => ?_
  rw [hholds, getElem_set_fin]
  split
  next hij =>
    subst hij
    exact ⟨iff_of_false hx hclosed, fun hopen => absurd hopen hclosed⟩
  next => exact ⟨Iff.rfl, fun _ => rfl⟩

/-! ### Holds closed and given up (R57, R58) -/

theorem closeHold_slots (i : HoldNo) (s : State) : (closeHold i s).slots = (releaseSlot s.holds[i].slot s).slots := by
  simp only [closeHold]
  rw [leftOpen_writes]
  rfl

theorem slotStep_closeHold {i : HoldNo} (h : s.holds[i].state = .opened) : SlotStep s (closeHold i s) :=
  .left (x := .cleared) h nofun (closeHold_holds i s) (closeHold_slots i s)

theorem slotStep_surrender (m : Tag) (w : WindowNo) (r : Nat) (s : State) : SlotStep s (surrender m w r s) := by
  unfold surrender
  split
  next => exact .of_eq rfl rfl
  next i _ =>
    split
    next h => exact slotStep_closeHold h
    next h =>
      split
      · exact .closed (x := .cleared) (by rw [h]; decide) nofun rfl rfl
      · exact .of_eq rfl rfl
    next => exact .of_eq rfl rfl
    next => exact .of_eq rfl rfl

/-- The state in which a closing hold's record is tested. -/
theorem closeHold_eq (i : HoldNo) (s : State) : closeHold i s =
    leftOpen s.holds[i].window s.holds[i].record ((releaseSlot s.holds[i].slot s).setHold i .cleared) := rfl

theorem releaseSlot_setHold (k : Option SlotNo) (i : HoldNo) (x : Hold) (s : State) : (releaseSlot k s).setHold i x =
    { s with slots := (releaseSlot k s).slots, holds := s.holds.set i x } := by
  rw [releaseSlot_writes]
  rfl

/-- A hold that closes has its record's WAITING fill tested (R66). -/
theorem fillTested_closeHold (i : HoldNo) (s : State) :
    FillTested { s with holds := s.holds.set i .cleared } s.holds[i].window s.holds[i].record (closeHold i s) := by
  have htested := fillTested_leftOpen s.holds[i].window s.holds[i].record
    { s with slots := (releaseSlot s.holds[i].slot s).slots, holds := s.holds.set i .cleared }
  rw [closeHold_eq, releaseSlot_setHold]
  exact fillTested_congr htested rfl rfl rfl rfl rfl rfl rfl

theorem closeHold_of_none {i : HoldNo} (h : openFill s s.holds[i].window s.holds[i].record = none) :
    (closeHold i s).fills = s.fills ∧ (closeHold i s).park = s.park := by
  rw [closeHold_eq, releaseSlot_setHold]
  exact leftOpen_of_none (s := { s with slots := _, holds := _ }) h

/-- Where the record has no open fill, giving up the master's entry changes no fill and no parked word. -/
theorem surrender_of_none (h : openFill s w r = none) :
    (surrender m w r s).fills = s.fills ∧ (surrender m w r s).park = s.park := by
  unfold surrender
  split
  next => exact ⟨rfl, rfl⟩
  next i hfound =>
    obtain ⟨-, -, hw, hr⟩ := (isOf_iff _ _ _ _).1 (findHold_spec hfound)
    split
    · exact closeHold_of_none (by rw [hw, hr]; exact h)
    · split <;> exact ⟨rfl, rfl⟩
    · exact ⟨rfl, rfl⟩
    · exact ⟨rfl, rfl⟩

/-! ### Coverage (R56, R57, R64) -/

section
variable {i : HoldNo} {a n : Nat}

/-- A read that leaves words uncovered adds its own. -/
theorem coverHold_uncovered
    (h : covers (s.cfg s.holds[i].window).guardLen.toNat (s.holds[i].coverage ||| offsetSet a n) = false) :
    coverHold i a n s = { s with
      holds := s.holds.set i { s.holds[i] with coverage := s.holds[i].coverage ||| offsetSet a n } } := by
  simp only [coverHold, h]
  rfl

/-- A read that covers the last word of an OPEN hold closes it. -/
theorem coverHold_closes (hopen : s.holds[i].state = .opened)
    (h : covers (s.cfg s.holds[i].window).guardLen.toNat (s.holds[i].coverage ||| offsetSet a n) = true) :
    coverHold i a n s = closeHold i { s with
      holds := s.holds.set i { s.holds[i] with coverage := s.holds[i].coverage ||| offsetSet a n } } := by
  simp only [coverHold, h, hopen, if_true]
  rfl

/-- A read that covers the last word of a BROKEN entry frees it. -/
theorem coverHold_frees (hbroken : s.holds[i].state = .broken)
    (h : covers (s.cfg s.holds[i].window).guardLen.toNat (s.holds[i].coverage ||| offsetSet a n) = true) :
    coverHold i a n s = { s with holds := s.holds.set i .cleared } := by
  simp only [coverHold, h, hbroken, if_true, State.setHold, Vector.set_set]

/-- What closes with its last word covered: the entry is FREE and its slot released, and its record is tested. -/
theorem coverHold_closed (hopen : s.holds[i].state = .opened)
    (h : covers (s.cfg s.holds[i].window).guardLen.toNat (s.holds[i].coverage ||| offsetSet a n) = true) :
    (coverHold i a n s).holds = s.holds.set i .cleared
      ∧ (coverHold i a n s).slots = (releaseSlot s.holds[i].slot s).slots
      ∧ FillTested { s with holds := s.holds.set i .cleared } s.holds[i].window s.holds[i].record (coverHold i a n s) := by
  let u : State := { s with
    holds := s.holds.set i { s.holds[i] with coverage := s.holds[i].coverage ||| offsetSet a n } }
  have hcovered : u.holds[i] = { s.holds[i] with coverage := s.holds[i].coverage ||| offsetSet a n } :=
    getElem_set_same _ _ _
  rw [coverHold_closes hopen h]
  refine ⟨?_, ?_, ?_⟩
  · rw [closeHold_holds, Vector.set_set]
  · refine (closeHold_slots i u).trans ?_
    rw [hcovered]
    cases s.holds[i].slot <;> rfl
  · have htested := fillTested_closeHold i u
    rw [hcovered] at htested
    have hset : u.holds.set i .cleared = s.holds.set i .cleared := by rw [Vector.set_set]
    exact fillTested_congr htested rfl rfl hset.symm rfl rfl rfl rfl

end

/-! ### Broken entries (R59, R63) -/

/-- An entry after a break: an OPEN one without pin and slot, a COPYING one with its slot; another as it was. -/
def brokenBy (s : State) (reason : BreakReason) (h : Hold) : Hold :=
  match h.state with
  | .opened => brokenHold s reason h
  | .copying => { h with state := .broken, countdown := (s.cfg h.window).linger, reason := some reason }
  | .broken => h
  | .free => h

section
variable {reason : BreakReason} {i : HoldNo}

theorem brokenBy_opened {h : Hold} (hopen : h.state = .opened) : brokenBy s reason h = brokenHold s reason h := by
  simp only [brokenBy, hopen]

theorem brokenBy_copying {h : Hold} (hcopying : h.state = .copying) : brokenBy s reason h =
    { h with state := .broken, countdown := (s.cfg h.window).linger, reason := some reason } := by
  simp only [brokenBy, hcopying]

theorem brokenBy_congr (h : t.windows = s.windows) (x : Hold) : brokenBy t reason x = brokenBy s reason x := by
  simp only [brokenBy, brokenHold, State.cfg, h]

/-- An entry that has been broken stands. -/
theorem brokenBy_twice (x : Hold) : brokenBy s reason (brokenBy s reason x) = brokenBy s reason x := by
  cases hstate : x.state with
  | free => simp only [brokenBy, hstate]
  | broken => simp only [brokenBy, hstate]
  | opened => rw [brokenBy_opened hstate]; rfl
  | copying => rw [brokenBy_copying hstate]; rfl

theorem breakReport_holds (x : Hold) (s : State) : (breakReport reason x s).holds = s.holds := by rw [breakReport_writes]
theorem breakReport_slots (x : Hold) (s : State) : (breakReport reason x s).slots = s.slots := by rw [breakReport_writes]
theorem breakReport_counters (x : Hold) (s : State) : (breakReport reason x s).counters = s.counters := by
  rw [breakReport_writes]

theorem breakEntry_opened (h : s.holds[i].state = .opened) : breakEntry reason i s =
    breakReport reason s.holds[i] { s with
      slots := (releaseSlot s.holds[i].slot s).slots, holds := s.holds.set i (brokenHold s reason s.holds[i])
      counters := counted .holdsBroken s.holds[i].window s } := by
  simp only [breakEntry, h, releaseSlot_setHold]
  rfl

theorem breakEntry_copying (h : s.holds[i].state = .copying) : breakEntry reason i s =
    { s with
      holds := s.holds.set i { s.holds[i] with
        state := .broken, countdown := (s.cfg s.holds[i].window).linger, reason := some reason }
      counters := counted .holdsBroken s.holds[i].window s } := by
  simp only [breakEntry, h]
  rfl

theorem breakEntry_other (hopen : s.holds[i].state ≠ .opened) (hcopying : s.holds[i].state ≠ .copying) :
    breakEntry reason i s = s := by
  unfold breakEntry
  dsimp only
  split
  next h => exact absurd h hopen
  next h => exact absurd h hcopying
  all_goals rfl

theorem set_self {α : Type} {n : Nat} (v : Vector α n) (i : Fin n) : v.set i v[i] = v := by
  ext j hj
  rw [Vector.getElem_set]
  split
  next hij => subst hij; rfl
  next => rfl

theorem breakEntry_holds (reason : BreakReason) (i : HoldNo) (s : State) :
    (breakEntry reason i s).holds = s.holds.set i (brokenBy s reason s.holds[i]) := by
  cases hstate : s.holds[i].state with
  | opened => rw [breakEntry_opened hstate, breakReport_holds, brokenBy_opened hstate]
  | copying => rw [breakEntry_copying hstate, brokenBy_copying hstate]
  | broken =>
    rw [breakEntry_other (by rw [hstate]; decide) (by rw [hstate]; decide)]
    simp only [brokenBy, hstate, set_self]
  | free =>
    rw [breakEntry_other (by rw [hstate]; decide) (by rw [hstate]; decide)]
    simp only [brokenBy, hstate, set_self]

theorem slotStep_breakEntry (reason : BreakReason) (i : HoldNo) (s : State) : SlotStep s (breakEntry reason i s) := by
  cases hstate : s.holds[i].state with
  | opened =>
    refine .left hstate (x := brokenHold s reason s.holds[i]) nofun ?_ ?_
    · rw [breakEntry_opened hstate, breakReport_holds]
    · rw [breakEntry_opened hstate, breakReport_slots]
  | copying =>
    rw [breakEntry_copying hstate]
    exact .closed (i := i) (by rw [hstate]; decide) (by nofun) rfl rfl
  | broken => rw [breakEntry_other (by rw [hstate]; decide) (by rw [hstate]; decide)]; exact .of_eq rfl rfl
  | free => rw [breakEntry_other (by rw [hstate]; decide) (by rw [hstate]; decide)]; exact .of_eq rfl rfl

/-- An entry in force that is broken is counted. -/
theorem breakEntry_counters (h : InForce s i) :
    (breakEntry reason i s).counters = counted .holdsBroken s.holds[i].window s := by
  rcases h with h | h
  · rw [breakEntry_opened h, breakReport_counters]
  · rw [breakEntry_copying h]

theorem afterBreak_holds (x : Hold) (s : State) : (afterBreak x s).holds = s.holds := by rw [afterBreak_writes]
theorem afterBreak_slots (x : Hold) (s : State) : (afterBreak x s).slots = s.slots := by rw [afterBreak_writes]
theorem afterBreak_counters (x : Hold) (s : State) : (afterBreak x s).counters = s.counters := by rw [afterBreak_writes]

theorem breakHold_holds (reason : BreakReason) (i : HoldNo) (s : State) :
    (breakHold reason i s).holds = s.holds.set i (brokenBy s reason s.holds[i]) :=
  (afterBreak_holds _ _).trans (breakEntry_holds reason i s)

theorem breakHold_hold (reason : BreakReason) (i j : HoldNo) (s : State) :
    (breakHold reason i s).holds[j] = if i = j then brokenBy s reason s.holds[j] else s.holds[j] := by
  rw [breakHold_holds, getElem_set_fin]
  split
  next hij => subst hij; rfl
  next => rfl

theorem breakHold_counters (h : InForce s i) :
    (breakHold reason i s).counters = counted .holdsBroken s.holds[i].window s :=
  (afterBreak_counters _ _).trans (breakEntry_counters h)

theorem breakHold_windows (reason : BreakReason) (i : HoldNo) (s : State) : (breakHold reason i s).windows = s.windows := by
  rw [breakHold_writes]

theorem slotStep_breakHold (reason : BreakReason) (i : HoldNo) (s : State) : SlotStep s (breakHold reason i s) :=
  (slotStep_breakEntry reason i s).trans (.of_eq (afterBreak_slots _ _) (afterBreak_holds _ _))

variable {is : List HoldNo}

/-- Of entries broken one after another, those listed are broken and the others stand. -/
theorem breakAll_hold (reason : BreakReason) (is : List HoldNo) (j : HoldNo) (s : State) :
    (breakAll reason is s).holds[j] = if j ∈ is then brokenBy s reason s.holds[j] else s.holds[j] := by
  induction is generalizing s with
  | nil => simp [breakAll]
  | cons i is ih =>
    simp only [breakAll]
    rw [ih, breakHold_hold, brokenBy_congr (breakHold_windows reason i s)]
    by_cases hij : i = j
    · subst hij
      simp only [if_true, List.mem_cons, true_or]
      split
      · exact brokenBy_twice _
      · rfl
    · simp only [if_neg hij, List.mem_cons, Ne.symm hij, false_or]

theorem slotStep_breakAll (reason : BreakReason) (is : List HoldNo) (s : State) : SlotStep s (breakAll reason is s) := by
  induction is generalizing s with
  | nil => exact .of_eq rfl rfl
  | cons i is ih => exact (slotStep_breakHold reason i s).trans (ih _)

theorem countTimes_counters_congr (n : CounterName) (w : WindowNo) (k : Nat) (h : t.counters = s.counters) :
    (countTimes n w k t).counters = (countTimes n w k s).counters := by
  induction k generalizing s t with
  | zero => exact h
  | succ k ih => exact ih (by simp only [count, h])

/-- Different entries in force of one window, broken one after another, are counted one by one. -/
theorem breakAll_counters (hnodup : is.Nodup) (hforce : ∀ i ∈ is, InForce s i ∧ s.holds[i].window = w) :
    (breakAll reason is s).counters = (countTimes .holdsBroken w is.length s).counters := by
  induction is generalizing s with
  | nil => rfl
  | cons i is ih =>
    obtain ⟨hfresh, hnodup⟩ := List.nodup_cons.1 hnodup
    obtain ⟨hi, hw⟩ := hforce i (.head _)
    have hother (j : HoldNo) (hj : j ∈ is) : (breakHold reason i s).holds[j] = s.holds[j] := by
      rw [breakHold_hold, if_neg fun (hij : i = j) => hfresh (by rw [hij]; exact hj)]
    have hrest := ih (s := breakHold reason i s) hnodup fun j hj => by
      simp only [InForce, hother j hj]
      exact hforce j (.tail _ hj)
    refine hrest.trans (countTimes_counters_congr _ _ _ ?_)
    rw [breakHold_counters hi, hw]
    rfl

/-- Different OPEN holds that yield are reported one by one (R95, R115). -/
theorem breakAll_yielded_reports (hnodup : is.Nodup) (hopen : ∀ i ∈ is, s.holds[i].state = .opened) :
    ReportedAll (is.map fun i => .of .holdYielded s.holds[i].window s.holds[i].record s.holds[i].master) s
      (breakAll .yielded is s) := by
  induction is generalizing s with
  | nil => exact reportedAll_nil rfl rfl
  | cons i is ih =>
    obtain ⟨hfresh, hnodup⟩ := List.nodup_cons.1 hnodup
    have hi := hopen i (.head _)
    have hother (j : HoldNo) (hj : j ∈ is) : (breakHold .yielded i s).holds[j] = s.holds[j] := by
      rw [breakHold_hold, if_neg fun (hij : i = j) => hfresh (by rw [hij]; exact hj)]
    have hrest := ih (s := breakHold .yielded i s) hnodup fun j hj => by rw [hother j hj]; exact hopen j (.tail _ hj)
    have hsame : is.map (fun i' => Report.of .holdYielded (breakHold .yielded i s).holds[i'].window
          (breakHold .yielded i s).holds[i'].record (breakHold .yielded i s).holds[i'].master)
        = is.map fun i' => .of .holdYielded s.holds[i'].window s.holds[i'].record s.holds[i'].master :=
      List.map_congr_left fun j hj => by simp only [hother j hj]
    rw [hsame] at hrest
    have hfirst : ReportedAll [.of .holdYielded s.holds[i].window s.holds[i].record s.holds[i].master] s
        (breakHold .yielded i s) := by
      have hafter : (breakHold .yielded i s).events = (breakEntry .yielded i s).events
          ∧ (breakHold .yielded i s).alertLow = (breakEntry .yielded i s).alertLow := by
        rw [breakHold, afterBreak_writes]
        exact ⟨rfl, rfl⟩
      rw [breakEntry_opened hi] at hafter
      simp only [breakReport] at hafter
      refine reportedAll_congr ?_ hafter.1 hafter.2
      exact reported_of_agree _ rfl rfl rfl
    refine reportedAll_append hfirst ?_ hrest
    rw [breakHold_writes]

/-- Holds of records without an open fill, broken one after another, change no fill and no parked word. -/
theorem breakAll_of_none (h : ∀ i ∈ is, openFill s s.holds[i].window s.holds[i].record = none) :
    (breakAll reason is s).fills = s.fills ∧ (breakAll reason is s).park = s.park := by
  induction is generalizing s with
  | nil => exact ⟨rfl, rfl⟩
  | cons i is ih =>
    have hentry : (breakEntry reason i s).fills = s.fills ∧ (breakEntry reason i s).park = s.park := by
      rw [breakEntry_writes]
      exact ⟨rfl, rfl⟩
    have hbroken : (breakHold reason i s).fills = s.fills ∧ (breakHold reason i s).park = s.park := by
      rw [← hentry.1, ← hentry.2]
      change (afterBreak _ _).fills = _ ∧ (afterBreak _ _).park = _
      unfold afterBreak
      split
      · refine leftOpen_of_none ?_
        rw [openFill, hentry.1]
        exact h i (.head _)
      all_goals exact ⟨rfl, rfl⟩
    have hrest := ih (s := breakHold reason i s) fun j hj => by
      have hplace : (breakHold reason i s).holds[j].window = s.holds[j].window
          ∧ (breakHold reason i s).holds[j].record = s.holds[j].record := by
        rw [breakHold_hold]
        split
        · unfold brokenBy brokenHold
          split <;> exact ⟨rfl, rfl⟩
        · exact ⟨rfl, rfl⟩
      rw [openFill, hbroken.1, hplace.1, hplace.2]
      exact h j (.tail _ hj)
    exact ⟨hrest.1.trans hbroken.1, hrest.2.trans hbroken.2⟩

end

/-! ### Abandoned fills (R84) -/

section
variable {f : FillNo}

theorem report_fills (x : Report) (s : State) : (report x s).fills = s.fills := by rw [report_writes]

theorem markDamaged_fills (i : Nat) (s : State) : (markDamaged i s).fills = s.fills := rfl

theorem abandonFill_fills (f : FillNo) (s : State) : (abandonFill f s).fills = s.fills.set f
    (if s.fills[f].parked = 0 then .cleared s.fills[f].generation else { s.fills[f] with abandoned := true }) := by
  have hmarked (b : Prop) [Decidable b] (i : Nat) (u : State) : (if b then u else markDamaged i u).fills = u.fills := by
    split <;> rfl
  simp only [abandonFill]
  split
  · simp only [freeFillEntry, fillFreed_fills, setFill_fills, count, report_fills, hmarked, Vector.set_set, getElem_set_same]
  · simp only [count, report_fills, hmarked, setFill_fills]

theorem abandonFill_directory (f : FillNo) (s : State) : (abandonFill f s).directory =
    if (s.cfg s.fills[f].window).mode = .banked then s.directory
    else (markDamaged ((s.cfg s.fills[f].window).dirIndex s.fills[f].record) s).directory := by
  have hreport (x : Report) (u : State) : (report x u).directory = u.directory := by rw [report_writes]
  have hfreed (u : State) : (freeFillEntry f u).directory = u.directory := rfl
  have hcount (n : CounterName) (v : WindowNo) (u : State) : (count n v u).directory = u.directory := rfl
  simp only [abandonFill]
  rw [apply_ite State.directory, hfreed, ite_self, hcount, hreport]
  split <;> rfl

/-- An abandoned fill is counted and reported, whether its entry becomes FREE or stays. -/
theorem abandonFill_reports (f : FillNo) (s : State) :
    (abandonFill f s).counters = counted .fillsAbandoned s.fills[f].window s
      ∧ Reported (.of .fillAbandoned s.fills[f].window s.fills[f].record s.fills[f].owner) s (abandonFill f s) := by
  let u := if (s.cfg s.fills[f].window).mode = .banked then s.setFill f { s.fills[f] with abandoned := true }
    else markDamaged ((s.cfg s.fills[f].window).dirIndex s.fills[f].record) (s.setFill f { s.fills[f] with abandoned := true })
  let x : Report := .of .fillAbandoned s.fills[f].window s.fills[f].record s.fills[f].owner
  have hagree : u.events = s.events ∧ u.alertLow = s.alertLow ∧ u.timeBase = s.timeBase ∧ u.counters = s.counters := by
    simp only [u]
    split <;> exact ⟨rfl, rfl, rfl, rfl⟩
  obtain ⟨hevents, hlow, htime, hcounters⟩ := hagree
  have hreported : Reported x s (report x u) := reported_of_agree x hevents hlow htime
  have hcounted : (count .fillsAbandoned s.fills[f].window (report x u)).counters = counted .fillsAbandoned s.fills[f].window s := by
    have hkept : (report x u).counters = s.counters := by rw [report_writes]; exact hcounters
    simp only [count, counted, hkept]
  change (ite _ (freeFillEntry f (count _ _ (report x u))) _).counters = _ ∧ Reported x s (ite _ (freeFillEntry f (count _ _ (report x u))) _)
  split <;> exact ⟨hcounted, hreported⟩

end

end

end Sys2Proof.Machine
end

section
/-! SUPPORT. What runs out: holds and lingers (R59, R60, R65), fills (R83, R84). -/

namespace Sys2Proof.Machine

open Sys2Proof.Statements

section
variable {s : State} {i : HoldNo} {f : FillNo}

/-- An OPEN hold of a LIVE window that has run out is broken, and no drain is tested. -/
theorem exec_holdExpired (hopen : s.holds[i].state = .opened) (hzero : s.holds[i].countdown = 0)
    (hlimit : (s.cfg s.holds[i].window).holdLimit ≠ 0) (hlive : Live s s.holds[i].window) :
    exec (.holdExpired i) s = .next (breakHold .expired i s) := by
  change Host.Outcome.next (expireHold i s) = _
  have hranOut : holdRanOut s i = true := by
    simp only [holdRanOut, Bool.and_eq_true, decide_eq_true_eq]
    exact ⟨⟨hopen, hlimit⟩, hzero⟩
  rw [expireHold, if_pos hranOut, drainTest_of_live (breakHold_windows _ i s) hlive]

/-- The linger is the hold limit where there is one (R59). -/
theorem linger_of_holdLimit {c : WinConfig} (h : c.holdLimit ≠ 0) : c.linger = c.holdLimit := by
  unfold WinConfig.linger
  rw [if_neg h]

theorem breakHold_slots (hopen : s.holds[i].state = .opened) (reason : BreakReason) :
    (breakHold reason i s).slots = (releaseSlot s.holds[i].slot s).slots := by
  rw [breakHold, afterBreak_slots, breakEntry_opened hopen, breakReport_slots]

/-- A hold that expires is reported (R60). -/
theorem breakHold_expired_reported (hopen : s.holds[i].state = .opened) :
    Reported (.of .holdExpired s.holds[i].window s.holds[i].record s.holds[i].master) s (breakHold .expired i s) := by
  have hafter : (breakHold .expired i s).events = (breakEntry .expired i s).events
      ∧ (breakHold .expired i s).alertLow = (breakEntry .expired i s).alertLow := by
    rw [breakHold, afterBreak_writes]
    exact ⟨rfl, rfl⟩
  rw [Reported, hafter.1, hafter.2, breakEntry_opened hopen]
  exact reported_of_agree (s := s) (.of .holdExpired s.holds[i].window s.holds[i].record s.holds[i].master) rfl rfl rfl

/-- A hold that has been broken has its record's WAITING fill tested (R66). -/
theorem fillTested_breakHold (hopen : s.holds[i].state = .opened) (reason : BreakReason) :
    FillTested { s with holds := (breakHold reason i s).holds } s.holds[i].window s.holds[i].record (breakHold reason i s) := by
  have hlast : breakHold reason i s = leftOpen s.holds[i].window s.holds[i].record (breakEntry reason i s) := by
    simp only [breakHold, afterBreak, hopen]
  have htested := fillTested_leftOpen s.holds[i].window s.holds[i].record (breakEntry reason i s)
  rw [← hlast] at htested
  have hkept : (breakEntry reason i s).windows = s.windows ∧ (breakEntry reason i s).directory = s.directory
      ∧ (breakEntry reason i s).fills = s.fills ∧ (breakEntry reason i s).park = s.park := by
    rw [breakEntry_writes]
    exact ⟨rfl, rfl, rfl, rfl⟩
  obtain ⟨hwindows, hdirectory, hfills, hpark⟩ := hkept
  exact fillTested_congr htested hwindows.symm hdirectory.symm (afterBreak_holds _ _) hfills.symm hpark.symm rfl rfl

/-- Settles O30: the break of the hold is the whole of its expiry, and the linger's end frees the entry. -/
theorem holdExpiryAndLinger : Obligations.HoldExpiryAndLinger := by
  intro s i hzero
  refine ⟨fun hopen hlimit hlive => ?expires, fun hbroken hslot => ?lingers⟩
  case lingers =>
    change Host.Outcome.next (expireLinger i s) = _
    have hranOut : lingerRanOut s i = true := by
      simp only [lingerRanOut, Hold.isSettledBroken, Bool.and_eq_true, decide_eq_true_eq]
      exact ⟨⟨hbroken, hslot⟩, hzero⟩
    rw [expireLinger, if_pos hranOut]
    rfl
  case expires =>
    refine ⟨_, exec_holdExpired hopen hzero hlimit hlive, ?_, fun k hk => ?_, fun hnone => ?_,
      breakHold_counters (.inl hopen), breakHold_expired_reported hopen, fillTested_breakHold hopen _,
      sameRequests_breakHold _ i s, ?_⟩
    · rw [breakHold_holds, brokenBy_opened hopen, brokenHold, linger_of_holdLimit hlimit]
    · rw [breakHold_slots hopen, hk]
      rfl
    · rw [breakHold_slots hopen, hnone]
      rfl
    · exact breakHold_writes .expired i s

/-- Settles O31: the abandonment of the fill is the whole of its expiry. -/
theorem fillExpiryAbandons : Obligations.FillExpiryAbandons := by
  intro s f hactive habandoned hzero hlimit hlive hdir
  dsimp only
  have hranOut : fillRanOut s f = true := by
    simp only [fillRanOut, Bool.and_eq_true, decide_eq_true_eq, Bool.not_eq_true']
    exact ⟨⟨⟨hactive, habandoned⟩, hlimit⟩, hzero⟩
  have hwindows : (abandonFill f s).windows = s.windows := by rw [abandonFill_writes]
  have hnext : exec (.fillExpiry f) s = .next (abandonFill f s) := by
    change Host.Outcome.next (expireFill f s) = _
    rw [expireFill, if_pos hranOut, drainTest_of_live hwindows hlive]
  obtain ⟨hcounters, hreported⟩ := abandonFill_reports f s
  refine ⟨_, hnext, ?_, fun j hj => ?_, abandonFill_fills f s, hcounters, hreported, sameRequests_abandonFill f s,
    abandonFill_writes f s⟩
  · rw [abandonFill_directory]
    split
    · rfl
    · rw [dirGet_markDamaged hdir, if_pos rfl]
  · rw [abandonFill_directory]
    split
    · rfl
    · rw [dirGet_markDamaged hdir, if_neg hj.symm]

end

end Sys2Proof.Machine
end

section
/-! SUPPORT. Memory's responses (R17, R18): the outcome of a write, copies that return or fail (R63, R129, R130), and the
overlay of an own-view read (R88, R103). -/

namespace Sys2Proof.Machine

open Sys2Proof.Statements

section
variable {s t u : State} {m : Tag}

theorem reported_of_state {r : Report} (h : Reported r u t) (hevents : u.events = s.events) (hlow : u.alertLow = s.alertLow)
    (htime : u.timeBase = s.timeBase) : Reported r s t := by
  obtain ⟨he, ha⟩ := reported_of_agree r hevents hlow htime
  exact ⟨h.1.trans he, h.2.trans ha⟩

/-! ### Words placed in a lane (R17) -/

theorem placeWords_own (p : LanePos) (fate : List WordState → List WordState) (s : State) :
    (placeWords p fate s).lanes[p.lane].reqs = s.lanes[p.lane].reqs.map (placeIn p fate) := by
  rw [placeWords_lanes, getElem_set_same]

theorem placeWords_other (p : LanePos) (fate : List WordState → List WordState) (s : State) {n : Tag} (h : n ≠ p.lane) :
    (placeWords p fate s).lanes[n] = s.lanes[n] := by
  rw [placeWords_lanes, getElem_set_other _ _ _ _ h.symm]

/-- Settles O21, by the memory's answer and by the fill the write was issued for. -/
theorem fillWriteFaultMarksDamaged : Obligations.FillWriteFaultMarksDamaged := by
  intro s x rest p origin st hsettled hdir hlist horigin
  let u := placeWords p (fun old => old.map fun _ => .done ⟨0, st, .plain⟩) { s with inFlight := rest }
  have hown : u.lanes[p.lane].reqs = s.lanes[p.lane].reqs.map (placeIn p fun old => old.map fun _ => .done ⟨0, st, .plain⟩) :=
    placeWords_own p _ { s with inFlight := rest }
  have hother (n : Tag) (hn : n ≠ p.lane) : u.lanes[n] = s.lanes[n] := placeWords_other p _ { s with inFlight := rest } hn
  have hframe : u = { s with lanes := u.lanes, responseGrant := u.responseGrant, inFlight := rest } :=
    placeWords_writes p _ { s with inFlight := rest }
  have hnext : exec (.segmentResponse (.write st)) s = .next (answerWrite p origin st { s with inFlight := rest }) := by
    rw [exec_segmentResponse hsettled, respondSegment, hlist]
    simp only [horigin]
  by_cases hquiet : st = .okay ∨ origin = none
  · have hanswer : answerWrite p origin st { s with inFlight := rest } = u := by
      unfold answerWrite
      rcases hquiet with rfl | rfl
      · cases origin <;> rfl
      · rfl
    rw [hanswer] at hnext
    refine ⟨u, hnext, ?_, hown, hother, fun _ => hframe, fun o hst horg => ?_⟩
    · rw [hframe]
    · subst hst horg
      simp at hquiet
  · obtain ⟨hst, horg⟩ := not_or.1 hquiet
    obtain ⟨o, rfl⟩ := Option.ne_none_iff_exists'.1 horg
    obtain rfl : st = .fault := by cases st with
      | okay => exact absurd rfl hst
      | fault => rfl
    let r : Report := .of .fillWriteFault o.window o.record p.lane
    let t := report r (fillWriteFaulted o.dirIndex (some o.fill) u)
    have htaken : t = { u with directory := (fillWriteFaulted o.dirIndex (some o.fill) u).directory, fills := (fillWriteFaulted o.dirIndex (some o.fill) u).fills, events := t.events, alertLow := t.alertLow } :=
      report_fillWriteFaulted_writes r o.dirIndex (some o.fill) u
    have hentries (n : Nat) : dirGet t.directory n =
        if o.dirIndex = n then { dirGet s.directory o.dirIndex with damaged := true } else dirGet s.directory n := by
      have hkept : u.directory = s.directory := by rw [hframe]
      rw [htaken, dirGet_fillWriteFaulted (by rw [hkept]; exact hdir), hkept]
    have hreported : Reported r s t := by
      apply reported_of_agree <;> rw [fillWriteFaulted_writes, hframe]
    refine ⟨t, hnext, ?_, ?_, fun n hn => ?_, fun h => absurd h hquiet, fun o' _ horg' => ?_⟩
    · rw [htaken, hframe]
    · rw [htaken]
      exact hown
    · rw [htaken]
      exact hother n hn
    · obtain rfl : o = o' := Option.some.inj horg'
      refine ⟨by rw [hentries, if_pos rfl], fun j hj => by rw [hentries, if_neg hj.symm], ?_, hreported, ?_⟩
      · have hsame : u.fills = s.fills ∧ refersTo o.fill u = refersTo o.fill s := by
          rw [hframe]
          exact ⟨rfl, rfl⟩
        rw [htaken, fillWriteFaulted_fills, hsame.1, hsame.2]
      · rw [htaken, hframe]

/-! ### Copies that return (R63, R129) and fail (R130) -/

theorem slotBeats_zero (ws : List Word) (guard : GuardStatus) (n : Nat) :
    slotBeats ws guard 0 n = (List.range n).map fun j => .done ⟨ws.getD j 0, .okay, guard⟩ := by
  simp only [slotBeats, Nat.zero_add]

theorem takeBound_of_bound {b : Nat} (h : s.lanes[m].phase = .bound b) (fates : Nat → List WordState) :
    takeBound m fates s = takeWords m (fates b) s := by
  simp only [takeBound, h]

theorem boundLength_of_bound {l : Lane} {b : Nat} (h : l.phase = .bound b) : l.boundLength = b := by
  simp only [Lane.boundLength, h]

section
variable {x : InFlight} {rest : List InFlight} {k : SlotNo} {i : HoldNo} {w : WindowNo} {r : Nat} {orphan : Bool}
  {beats : List MemBeat}

theorem exec_copyReturned (hsettled : s.Settled) (hlist : s.inFlight = x :: rest) (horigin : x.origin = .copy k i w r m orphan)
    (hlength : beats.length = x.req.body.length) (hokay : ∀ y ∈ beats, y.status = .okay) :
    exec (.copyResponse beats) s = .next (copyReturned i k m orphan (beats.map MemBeat.data) { s with inFlight := rest }) := by
  have hall : (beats.all fun b => decide (b.status = .okay)) = true := by simpa using hokay
  rw [exec_copyResponse hsettled, respondCopy, hlist]
  simp only [horigin, hlength, hall, if_true]

theorem exec_copyFailed (hsettled : s.Settled) (hlist : s.inFlight = x :: rest) (horigin : x.origin = .copy k i w r m orphan)
    (hlength : beats.length = x.req.body.length) (hfault : ∃ y ∈ beats, y.status = .fault) :
    exec (.copyResponse beats) s = .next (copyFailed i k w r m orphan { s with inFlight := rest }) := by
  have hall : (beats.all fun b => decide (b.status = .okay)) = false := by
    obtain ⟨y, hy, hstatus⟩ := hfault
    rw [List.all_eq_false]
    exact ⟨y, hy, by rw [hstatus]; decide⟩
  rw [exec_copyResponse hsettled, respondCopy, hlist]
  simp only [horigin, hlength, hall, if_true]
  rfl

end

section
variable {b : Nat} {k : SlotNo} {i : HoldNo} {ws : List Word}

/-- What is left of an entry broken while COPYING when its copy returns (R63). -/
def afterBrokenCopy (s : State) (h : Hold) (b : Nat) : Hold :=
  if h.leftService = true ∨ covers (s.cfg h.window).guardLen.toNat (h.coverage ||| offsetSet 0 b) = true then .cleared
  else { h with slot := none, coverage := h.coverage ||| offsetSet 0 b }

theorem endBrokenCopy_eq (h : s.lanes[m].phase = .bound b) : endBrokenCopy i k m ws s =
    { takeWords m (slotBeats ws .torn 0 b) (s.setSlot k .free) with
      holds := s.holds.set i (afterBrokenCopy s s.holds[i] b) } := by
  have htaken : takeBound m (slotBeats ws .torn 0) (s.setSlot k .free) = takeWords m (slotBeats ws .torn 0 b) (s.setSlot k .free) :=
    takeBound_of_bound (s := s.setSlot k .free) h _
  have hholds : (takeWords m (slotBeats ws .torn 0 b) (s.setSlot k .free)).holds = s.holds := by rw [takeWords_writes]; rfl
  simp only [endBrokenCopy, boundLength_of_bound h, htaken, afterBrokenCopy, State.setHold, hholds]
  split <;> rfl

/-- A hold opened by its copy, its first words served (R129). -/
theorem openFromCopy_eq (h : s.lanes[m].phase = .bound b) (hlive : Live s s.holds[i].window)
    (huncovered : covers (s.cfg s.holds[i].window).guardLen.toNat (s.holds[i].coverage ||| offsetSet 0 b) = false) :
    openFromCopy i k m ws s = copyMoved s.holds[i].window s.holds[i].record
      { takeWords m (slotBeats ws (heldOrTorn s.holds[i].damagedAtOpen) 0 b)
          ((s.setSlot k (.loaded i (s.cfg s.holds[i].window).guardLen.toNat
            (ws.take (s.cfg s.holds[i].window).guardLen.toNat))).setHold i { s.holds[i] with state := .opened }) with
        holds := s.holds.set i { s.holds[i] with state := .opened, coverage := s.holds[i].coverage ||| offsetSet 0 b } } := by
  let u := (s.setSlot k (.loaded i (s.cfg s.holds[i].window).guardLen.toNat
    (ws.take (s.cfg s.holds[i].window).guardLen.toNat))).setHold i { s.holds[i] with state := .opened }
  let v := takeWords m (slotBeats ws (heldOrTorn s.holds[i].damagedAtOpen) 0 b) u
  have htaken : takeBound m (slotBeats ws (heldOrTorn s.holds[i].damagedAtOpen) 0) u = v := takeBound_of_bound (s := u) h _
  have hkept : v.holds = u.holds ∧ v.windows = s.windows := by
    simp only [v]
    rw [takeWords_writes]
    exact ⟨rfl, rfl⟩
  obtain ⟨hholds, hwindows⟩ := hkept
  have hentry : v.holds[i] = { s.holds[i] with state := .opened } := by
    rw [hholds]
    exact getElem_set_same _ _ _
  have hcover : coverHold i 0 b v = { v with
      holds := s.holds.set i { s.holds[i] with state := .opened, coverage := s.holds[i].coverage ||| offsetSet 0 b } } := by
    have hcfg : v.cfg v.holds[i].window = s.cfg s.holds[i].window := by rw [hentry, State.cfg, hwindows]; rfl
    have hcoverage : v.holds[i].coverage = s.holds[i].coverage := by rw [hentry]
    rw [coverHold_uncovered (by rw [hcfg, hcoverage]; exact huncovered), hentry, hholds]
    simp only [u, setHold_holds, Vector.set_set]
    rfl
  simp only [openFromCopy, boundLength_of_bound h]
  rw [htaken, hcover]
  have hmoved : (copyMoved s.holds[i].window s.holds[i].record { v with
      holds := s.holds.set i { s.holds[i] with state := .opened, coverage := s.holds[i].coverage ||| offsetSet 0 b } }).windows
        = s.windows := by
    rw [copyMoved_writes]
    exact hwindows
  exact drainTest_of_live hmoved hlive

end

/-- Settles O23, by what the copy returns to: a COPYING entry, a broken one, or none after a soft reset. -/
theorem copyReturnOpensHold : Obligations.CopyReturnOpensHold := by
  intro s x rest k i w r m orphan beats b hsettled hlist horigin hlength hokay hbound
  let u : State := { s with inFlight := rest }
  have hnext : exec (.copyResponse beats) s = .next (copyReturned i k m orphan (beats.map MemBeat.data) u) :=
    exec_copyReturned hsettled hlist horigin hlength hokay
  have hbound' : u.lanes[m].phase = .bound b := hbound
  simp only [← slotBeats_zero]
  refine ⟨fun horphan hcopying hw hr hlive huncovered => ?copying, fun horphan hbroken => ?broken, fun horphan => ?orphaned⟩
  case orphaned =>
    rw [hnext, copyReturned, if_pos horphan, takeBound_of_bound hbound']
    refine ⟨_, rfl, ?_, takeWords_lanes_congr m _ rfl, ?_⟩
    · rw [takeWords_writes]
    · rw [takeWords_writes]
  case broken =>
    have hbroken' : u.holds[i].state = .broken := hbroken
    simp only [hnext, copyReturned, horphan, Bool.false_eq_true, if_false, hbroken', endBrokenCopy_eq hbound']
    refine ⟨_, rfl, ?_, ?_, rfl, takeWords_lanes_congr m _ rfl, ?_⟩
    · rw [takeWords_writes]
      rfl
    · rw [takeWords_writes]
      rfl
    · rw [takeWords_writes]
      rfl
  case copying =>
    subst hw hr
    have hcopying' : u.holds[i].state = .copying := hcopying
    simp only [hnext, copyReturned, horphan, Bool.false_eq_true, if_false, hcopying', openFromCopy_eq hbound' hlive huncovered]
    refine ⟨_, rfl, ?_, ?_, ?_, ?_, ?_⟩
    · rw [copyMoved_writes, takeWords_writes]
      rfl
    · rw [copyMoved_writes, takeWords_writes]
      rfl
    · rw [copyMoved_writes]
    · intro n
      rw [sameRequests_copyMoved]
      exact congrArg (fun lanes : Vector Lane 16 => lanes[n].reqs) (takeWords_lanes_congr m _ rfl)
    · rw [copyMoved_writes, takeWords_writes]
      rfl

/-- Settles O24: entry and slot are freed before the report; a window that does not drain is not tested. -/
theorem copyFaultFreesEntry : Obligations.CopyFaultFreesEntry := by
  intro s x rest k i w r m orphan beats b hsettled hlist horigin hlength hfault hdrain hbound
  let u := takeWords m (List.replicate b refusedWord) { s with inFlight := rest }
  let v := if orphan then u else copyMoved w r ((u.setHold i .cleared).setSlot k .free)
  let e : Report := .of .copyFault w r m
  have hu : u = { s with inFlight := rest, lanes := u.lanes, responseGrant := u.responseGrant } :=
    takeWords_writes m _ { s with inFlight := rest }
  have hv : v = { s with
      inFlight := rest, lanes := v.lanes, responseGrant := u.responseGrant
      holds := if orphan then s.holds else s.holds.set i .cleared
      slots := if orphan then s.slots else s.slots.set k .free } := by
    simp only [v]
    split
    · rw [hu]
    · rw [copyMoved_writes, hu]
      rfl
  have hfailed : copyFailed i k w r m orphan { s with inFlight := rest } = report e v := by
    have htaken : takeBound m (fun n => List.replicate n refusedWord) { s with inFlight := rest } = u :=
      takeBound_of_bound (s := { s with inFlight := rest }) hbound _
    have hwindows : (report e v).windows = s.windows := by rw [report_writes, hv]
    simp only [copyFailed, htaken]
    exact drainTest_of_not_draining (by rw [hwindows]; exact hdrain)
  have hlanes (n : Tag) : v.lanes[n].reqs = u.lanes[n].reqs := by
    simp only [v]
    split
    · rfl
    · exact sameRequests_copyMoved w r _ n
  have hreported : Reported e s (report e v) := reported_of_agree e (by rw [hv]) (by rw [hv]) (by rw [hv])
  rw [exec_copyFailed hsettled hlist horigin hlength hfault, hfailed]
  refine ⟨_, rfl, ?_, ?_, ?_, fun n => ?_, hreported, ?_⟩
  · rw [report_writes, hv]
  · rw [report_writes, hv]
  · rw [report_writes, hv]
  · rw [sameRequests_report, hlanes]
    exact congrArg (fun lanes : Vector Lane 16 => lanes[n].reqs) (takeWords_lanes_congr m _ rfl)
  · rw [report_writes, hv]

end

end Sys2Proof.Machine
end

section
/-! SUPPORT. Publication (R39, R80) and the issue of parked words (R101, R102). -/

namespace Sys2Proof.Machine

open Sys2Proof.Statements

section
variable {s t u : State} {f : FillNo}

/-! ### Publication -/

theorem publish_fills (f : FillNo) (s : State) : (publish f s).fills = s.fills.set f (.cleared s.fills[f].generation) := by
  simp only [publish, report_fills, count, freeFillEntry, fillFreed_fills]
  rfl

theorem publish_directory (f : FillNo) (s : State) : (publish f s).directory =
    dirPut ((s.cfg s.fills[f].window).dirIndex s.fills[f].record)
      (publishedEntry s.timeBase.value s.fills[f] (s.dirEntry s.fills[f].window s.fills[f].record)) s.directory := by
  have hreport (r : Report) (v : State) : (report r v).directory = v.directory := by rw [report_writes]
  simp only [publish, hreport]
  rfl

theorem dirGet_publish (h : dirWf s.directory) (f : FillNo) (j : Nat) : dirGet (publish f s).directory j =
    if (s.cfg s.fills[f].window).dirIndex s.fills[f].record = j then
      publishedEntry s.timeBase.value s.fills[f] (s.dirEntry s.fills[f].window s.fills[f].record)
    else dirGet s.directory j := by
  rw [publish_directory, dirGet_dirPut h]

theorem publish_counters (f : FillNo) (s : State) : (publish f s).counters = counted .fillsPublished s.fills[f].window s := by
  have hreport (r : Report) (v : State) : (report r v).counters = v.counters := by rw [report_writes]
  simp only [publish, hreport]
  rfl

theorem publish_reported (f : FillNo) (s : State) :
    Reported (.of .fillPublished s.fills[f].window s.fills[f].record s.fills[f].owner) s (publish f s) :=
  reported_of_agree (s := s) _ rfl rfl rfl

/-! ### What follows the issue of a fill's word (R78, R80) -/

theorem fillIssued_of_parked (h : s.fills[f].parked ≠ 0) : fillIssued f s = s := by
  simp only [fillIssued, h, and_false, if_false]

theorem fillIssued_of_uncovered (habandoned : s.fills[f].abandoned = false)
    (h : covers (s.cfg s.fills[f].window).guardLen.toNat s.fills[f].coverage = false) : fillIssued f s = s := by
  simp only [fillIssued, habandoned, h]
  simp

theorem fillIssued_of_covered (hactive : s.fills[f].state = .active) (hparked : s.fills[f].parked = 0)
    (habandoned : s.fills[f].abandoned = false)
    (h : covers (s.cfg s.fills[f].window).guardLen.toNat s.fills[f].coverage = true) : fillIssued f s = publish f s := by
  simp only [fillIssued, hactive, hparked, habandoned, h]
  simp

/-! ### The earliest RELEASED word -/

theorem firstReleased_of_parked {pre post : List ParkEntry} {e : ParkEntry} {a : WordAddr}
    (hpre : ∀ x ∈ pre, x.condition = .parked) (he : e.condition = .released a) :
    firstReleased (pre ++ e :: post) = some (e, a, pre ++ post) := by
  induction pre with
  | nil => simp only [List.nil_append, firstReleased, he]
  | cons x pre ih =>
    have hrest := ih fun y hy => hpre y (.tail _ hy)
    simp only [List.cons_append, firstReleased, hpre x (.head _), hrest, Option.map_some]

/-- The state in which the fill of an issued word is told. -/
def releaseIssued (e : ParkEntry) (a : WordAddr) (rest : List ParkEntry) (s : State) : State :=
  reofferWhen Stall.isAnyParkRoom (issue (e.toInFlight a) { s with park := rest })

theorem releaseIssued_writes (e : ParkEntry) (a : WordAddr) (rest : List ParkEntry) (s : State) : releaseIssued e a rest s =
    { s with
      lanes := (releaseIssued e a rest s).lanes, inFlight := s.inFlight ++ [e.toInFlight a], park := rest } := rfl

theorem grantRelease_of_released {pre post : List ParkEntry} {e : ParkEntry} {a : WordAddr} (hcopies : s.copies = [])
    (hroom : s.inFlight.length < 8) (hpark : s.park = pre ++ e :: post) (hpre : ∀ x ∈ pre, x.condition = .parked)
    (he : e.condition = .released a) :
    grantRelease s = drainTest e.window (fillReleased e.fill (releaseIssued e a (pre ++ post) s)) := by
  have hissue : (canIssue s && s.copies.isEmpty) = true := by
    rw [hcopies]
    exact (Bool.and_true _).trans (decide_eq_true hroom)
  simp only [grantRelease, hissue, if_true, hpark, firstReleased_of_parked hpre he]
  rfl

variable {ref : FillRef}

theorem fillReleased_of_stale (h : refersTo ref s = false) : fillReleased (some ref) s = s := by
  simp only [fillReleased, h]
  rfl

/-- A parked word of a fill that has others parked (R101). -/
theorem fillReleased_of_parked (h : refersTo ref s = true) (hparked : 1 < s.fills[ref.index].parked) :
    fillReleased (some ref) s = { s with
      fills := s.fills.set ref.index { s.fills[ref.index] with parked := s.fills[ref.index].parked - 1 } } := by
  simp only [fillReleased, h, if_true]
  refine fillIssued_of_parked ?_
  rw [setFill_fills, getElem_set_same]
  exact Nat.sub_ne_zero_of_lt hparked

/-- The last parked word of a covered ACTIVE fill publishes it (R80). -/
theorem fillReleased_of_last (h : refersTo ref s = true) (hactive : s.fills[ref.index].state = .active)
    (hparked : s.fills[ref.index].parked = 1) (habandoned : s.fills[ref.index].abandoned = false)
    (hcovered : covers (s.cfg s.fills[ref.index].window).guardLen.toNat s.fills[ref.index].coverage = true) :
    fillReleased (some ref) s = publish ref.index { s with
      fills := s.fills.set ref.index { s.fills[ref.index] with parked := s.fills[ref.index].parked - 1 } } := by
  simp only [fillReleased, h, if_true]
  have hentry : (s.setFill ref.index { s.fills[ref.index] with parked := s.fills[ref.index].parked - 1 }).fills[ref.index]
      = { s.fills[ref.index] with parked := s.fills[ref.index].parked - 1 } := getElem_set_same _ _ _
  refine fillIssued_of_covered ?_ ?_ ?_ ?_ <;> rw [hentry]
  · exact hactive
  · simp only [hparked]
  · exact habandoned
  · exact hcovered

theorem sameRequests_fillReleased (ref : Option FillRef) (s : State) : SameRequests s (fillReleased ref s) := by
  cases ref with
  | none => exact .refl s
  | some ref =>
    simp only [fillReleased]
    split
    · exact (SameRequests.of_lanes rfl).trans (sameRequests_fillIssued _ _)
    · exact .refl s

theorem drainTest_fills (w : WindowNo) (s : State) : (drainTest w s).fills = s.fills := by rw [drainTest_writes]

/-- Settles O19, by the fill the word was parked for: none, one with other words, or one that its last word completes. -/
theorem releaseGrantIssuesEarliest : Obligations.ReleaseGrantIssuesEarliest := by
  intro s pre post e a hsettled hcopies hroom hpark hpre he
  let u := releaseIssued e a (pre ++ post) s
  let v := fillReleased e.fill u
  have hu : u = { s with lanes := u.lanes, inFlight := s.inFlight ++ [e.toInFlight a], park := pre ++ post } :=
    releaseIssued_writes e a (pre ++ post) s
  have hv : v.windows = s.windows := by
    simp only [v]
    rw [fillReleased_writes, hu]
  have hlive (h : Live s e.window) : drainTest e.window v = v := drainTest_of_live hv h
  have hnext : exec .parkReleaseGrant s = .next (drainTest e.window v) := by
    rw [exec_parkReleaseGrant hsettled, grantRelease_of_released hcopies hroom hpark hpre he]
  have hkept : (drainTest e.window v).park = pre ++ post ∧ (drainTest e.window v).inFlight = s.inFlight ++ [e.toInFlight a]
      ∧ (drainTest e.window v).lastIssueLane = s.lastIssueLane ∧ (drainTest e.window v).copies = [] := by
    rw [drainTest_writes]
    simp only [v]
    rw [fillReleased_writes, hu]
    exact ⟨rfl, rfl, rfl, hcopies⟩
  obtain ⟨hparkAfter, hinFlight, hlast, hcopiesAfter⟩ := hkept
  refine ⟨_, hnext, hparkAfter, hinFlight, fun hnone => ?none, fun ref href hrefers hparked => ?others,
    fun ref href hrefers hactive hparked habandoned hdir hcovered => ?last, fun hl hmore => ?frame, fun m => ?requests,
    hlast, hcopiesAfter⟩
  case none =>
    rw [drainTest_fills]
    simp only [v, hnone]
    rfl
  case others =>
    have hafter : v = { u with fills := s.fills.set ref.index { s.fills[ref.index] with parked := s.fills[ref.index].parked - 1 } } := by
      simp only [v, href]
      exact fillReleased_of_parked (s := u) hrefers hparked
    rw [drainTest_fills, hafter]
  case last =>
    let x : State := { u with
      fills := s.fills.set ref.index { s.fills[ref.index] with parked := s.fills[ref.index].parked - 1 } }
    have hpublished : v = publish ref.index x := by
      simp only [v, href]
      exact fillReleased_of_last (s := u) hrefers hactive hparked habandoned hcovered
    have hentry : x.fills[ref.index] = { s.fills[ref.index] with parked := s.fills[ref.index].parked - 1 } :=
      getElem_set_same _ _ _
    have hdirectory := dirGet_publish (s := x) hdir ref.index
    have hfills := publish_fills ref.index x
    have hcounters := publish_counters ref.index x
    have hreported := publish_reported ref.index x
    rw [hentry] at hdirectory hfills hcounters hreported
    rw [← hpublished] at hdirectory hfills hcounters hreported
    have hafter : (drainTest e.window v).directory = v.directory ∧ (drainTest e.window v).counters = v.counters := by
      rw [drainTest_writes]
      exact ⟨rfl, rfl⟩
    refine ⟨?_, ?_, ?_, fun hl => ?_⟩
    · rw [hafter.1]
      exact (hdirectory _).trans (if_pos rfl)
    · rw [drainTest_fills, hfills]
      exact Vector.set_set ..
    · rw [hafter.2, hcounters]
      rfl
    · rw [hlive hl]
      exact reported_of_state hreported rfl rfl rfl
  case frame =>
    rw [hlive hl]
    cases hfill : e.fill with
    | none =>
      have hafter : v = u := by
        simp only [v, hfill]
        rfl
      rw [hafter]
      exact hu
    | some ref =>
      cases hrefers : refersTo ref s with
      | false =>
        have hafter : v = u := by
          simp only [v, hfill]
          exact fillReleased_of_stale (s := u) hrefers
        rw [hafter]
        exact hu
      | true =>
        have hafter : v = { u with fills := s.fills.set ref.index { s.fills[ref.index] with parked := s.fills[ref.index].parked - 1 } } := by
          simp only [v, hfill]
          exact fillReleased_of_parked (s := u) hrefers (hmore ref hfill hrefers)
        rw [hafter]
        rfl
  case requests =>
    rw [sameRequests_drainTest]
    simp only [v]
    rw [sameRequests_fillReleased]
    exact sameRequests_reofferWhen _ _ m

end

end Sys2Proof.Machine
end

section
/-! SUPPORT. What the owner of a segment decides (R11, R12, R31, R47, R72), the fates that need no grant (R14), and the
arbiter's second choice (R13, R19). -/

namespace Sys2Proof.Machine

open Sys2Proof.Statements

section
variable {s t u : State} {m : Tag} {q : Request} {g : Segment} {sp : GuardSpan} {xs : List WriteWord} {w : WindowNo}
  {r : Nat} {i : HoldNo} {f : FillNo}

/-! ### Guard segments (R11) -/

theorem decideSegment_readsGuard (h : ReadsGuard s q g sp) : decideSegment s m q g = decideRead s m sp := by
  obtain ⟨⟨n, hbody⟩, hcls, hsp⟩ := h
  have hspan := segmentSpan_faceGuard (s := s) (q := q) hcls
  simp only [decideSegment, hcls, hbody]
  rw [← hspan, ← hsp]

theorem decideSegment_writesGuard (h : WritesGuard s q g sp xs) : decideSegment s m q g = decideWrite s m sp := by
  obtain ⟨⟨ws, hbody⟩, hcls, hsp, -⟩ := h
  have hspan := segmentSpan_faceGuard (s := s) (q := q) hcls
  simp only [decideSegment, hcls, hbody]
  rw [← hspan, ← hsp]

theorem length_of_faceGuard (hcls : g.cls = .faceGuard sp.window sp.record) (hsp : sp = segmentSpan s q g) :
    sp.length = g.length := by
  rw [hsp, segmentSpan_faceGuard hcls]
  rfl

theorem length_of_readsGuard (h : ReadsGuard s q g sp) : sp.length = g.length := by
  obtain ⟨-, hcls, hsp⟩ := h
  exact length_of_faceGuard hcls hsp

theorem length_of_writesGuard (h : WritesGuard s q g sp xs) : sp.length = g.length := by
  obtain ⟨-, hcls, hsp, -⟩ := h
  exact length_of_faceGuard hcls hsp

/-! ### Reads (R47) -/

theorem ownFill_none (h : OwnsNoFill s m w r) :
    (openFill s w r).filter (fun f => decide (s.fills[f].owner = m)) = none := by
  rw [Option.filter_eq_none_iff]
  exact fun f hf => by simpa only [decide_eq_true_eq] using h f hf

theorem decideRead_ownView (hopen : openFill s sp.window sp.record = some f) (howner : s.fills[f].owner = m) :
    decideRead s m sp = .issue (.ownView f) := by
  have hown : (openFill s sp.window sp.record).filter (fun f => decide (s.fills[f].owner = m)) = some f := by
    rw [hopen, Option.filter_some, if_pos (decide_eq_true howner)]
  simp only [decideRead, hown]

theorem decideRead_candidate (hown : OwnsNoFill s m sp.window sp.record) (hlead : sp.offset = 0)
    (hbroken : ∀ i, findHold s m sp.window sp.record = some i → s.holds[i].state = .broken) :
    decideRead s m sp = decideCandidate s m sp := by
  simp only [decideRead, ownFill_none hown]
  split
  next => rw [if_pos hlead]
  next i hfound =>
    simp only [hbroken i hfound]
    rw [if_pos hlead]

theorem decideRead_opened (hown : OwnsNoFill s m sp.window sp.record)
    (hfound : findHold s m sp.window sp.record = some i) (hopen : s.holds[i].state = .opened) :
    decideRead s m sp = if (s.cfg sp.window).mode = .snap then .serve i else .issue (.continuation i) := by
  simp only [decideRead, ownFill_none hown, hfound, hopen]

theorem decideRead_broken (hown : OwnsNoFill s m sp.window sp.record)
    (hfound : findHold s m sp.window sp.record = some i) (hbroken : s.holds[i].state = .broken) (hlead : sp.offset ≠ 0) :
    decideRead s m sp = .issue (.brokenContinuation i) := by
  simp only [decideRead, ownFill_none hown, hfound, hbroken, if_neg hlead]

theorem decideRead_unguarded (hown : OwnsNoFill s m sp.window sp.record)
    (hnone : findHold s m sp.window sp.record = none) (hlead : sp.offset ≠ 0) : decideRead s m sp = .issue .unguarded := by
  simp only [decideRead, ownFill_none hown, hnone, if_neg hlead]

theorem decideCandidate_behindFill (hmode : (s.cfg sp.window).mode ≠ .banked)
    (hopen : openFill s sp.window sp.record = some f) :
    decideCandidate s m sp = .stall (.behindFill sp.window sp.record) := by
  have hbehind : (s.cfg sp.window).mode ≠ .banked ∧ (openFill s sp.window sp.record).isSome = true := ⟨hmode, by rw [hopen]; rfl⟩
  simp only [decideCandidate]
  rw [if_pos hbehind]

/-- A candidate that no fill and no drain holds back goes by the stale-read policy (R145). -/
theorem decideCandidate_eq (hfill : (s.cfg sp.window).mode ≠ .banked → openFill s sp.window sp.record = none)
    (hdrain : s.windows[sp.window].isDraining = false ∨ sp.length = (s.cfg sp.window).guardLen.toNat) :
    decideCandidate s m sp =
      if (s.dirEntry sp.window sp.record).stale ∧ (s.cfg sp.window).stalePolicy = .fault then
        .refuse (some (.of .staleRead sp.window sp.record m))
      else decideOpening s m sp := by
  have hfree : ¬ ((s.cfg sp.window).mode ≠ .banked ∧ (openFill s sp.window sp.record).isSome = true) := fun ⟨hmode, hsome⟩ => by
    rw [hfill hmode] at hsome
    cases hsome
  have hserves : ¬ (s.windows[sp.window].isDraining = true ∧ sp.length ≠ (s.cfg sp.window).guardLen.toNat) := by
    rintro ⟨hdraining, hlength⟩
    rcases hdrain with h | h
    · rw [h] at hdraining
      cases hdraining
    · exact hlength h
  simp only [decideCandidate]
  rw [if_neg hfree, if_neg hserves]

/-- A read that may open a hold is decided as an opening (R47, case 3). -/
theorem decideRead_opening (h : MayOpen s m sp)
    (hdrain : s.windows[sp.window].isDraining = false ∨ sp.length = (s.cfg sp.window).guardLen.toNat) :
    decideRead s m sp = decideOpening s m sp := by
  obtain ⟨hlead, hown, hfill, hbroken, hstale⟩ := h
  rw [decideRead_candidate hown hlead hbroken, decideCandidate_eq hfill hdrain, if_neg]
  rintro ⟨hset, hpolicy⟩
  rcases hstale with h | h
  · rw [h] at hset
    cases hset
  · rw [h] at hpolicy
    cases hpolicy

/-! ### Writes (R31, R72) -/

theorem decideWrite_foreign (h : mayProduce (s.cfg sp.window).producer m = false) :
    decideWrite s m sp = .refuse (some (.of .foreignWrite sp.window sp.record m)) := by
  simp only [decideWrite, h]
  rfl

theorem decideWrite_conflict (hmay : mayProduce (s.cfg sp.window).producer m = true)
    (hopen : openFill s sp.window sp.record = some f) (howner : s.fills[f].owner ≠ m) :
    decideWrite s m sp = .refuse (some (.of .fillConflict sp.window sp.record m)) := by
  simp only [decideWrite, hmay, hopen, if_true]
  rw [if_pos howner]

/-- A write of the owner of an open fill with words uncovered is parked, stalls for room, or is issued (R76, R100). -/
theorem decideWrite_own (hmay : mayProduce (s.cfg sp.window).producer m = true)
    (hopen : openFill s sp.window sp.record = some f) (howner : s.fills[f].owner = m) (habandoned : s.fills[f].abandoned = false)
    (huncovered : covers (s.cfg sp.window).guardLen.toNat s.fills[f].coverage = false) :
    decideWrite s m sp =
      if s.fills[f].state = .waiting then if parkHasRoom s sp.length then .park f else .stallParkRoom
      else .issue (.fillWrite f) := by
  simp only [decideWrite, hmay, hopen, if_true, howner, habandoned, huncovered]
  simp

/-- A write that opens a fill in a window that does not drain (R74, R127). -/
theorem decideWrite_opening (hmay : mayProduce (s.cfg sp.window).producer m = true)
    (hnone : openFill s sp.window sp.record = none) (hlive : s.windows[sp.window].isDraining = false)
    (hcopy : NoUnissuedCopy s sp.window sp.record) (hfree : freeFill s = some f) :
    decideWrite s m sp = decideFillOpening s m sp f := by
  have hissued : ¬ ((s.cfg sp.window).mode = .snap ∧ hasUnissuedCopy s sp.window sp.record = true) := by
    rintro ⟨hmode, hhas⟩
    obtain ⟨k, hk, hpred⟩ := List.any_eq_true.1 hhas
    simp only [Bool.and_eq_true, decide_eq_true_eq] at hpred
    obtain ⟨⟨hw, hr⟩, hcopying⟩ := hpred
    exact hcopy hmode k hk hw hr hcopying
  simp only [decideWrite, hmay, hnone, if_true, hlive]
  rw [if_neg hissued]
  simp only [hfree]
  rfl

/-! ### Refusals (R12, R31, R73, R145) -/

/-- A segment judged as one to refuse is refused where it is offered. -/
theorem offerRefused_of_refuse {e : Report} (h : Offered s m q g) (hdecide : decideSegment s m q g = .refuse (some e)) :
    OfferRefused s m g e := by
  have hframe : refuseSegment m g.length (some e) s = { s with
      lanes := (refuseSegment m g.length (some e) s).lanes
      responseGrant := (refuseSegment m g.length (some e) s).responseGrant
      events := (refuseSegment m g.length (some e) s).events
      alertLow := (refuseSegment m g.length (some e) s).alertLow } := refuseSegment_writes m g.length (some e) s
  refine ⟨refuseSegment m g.length (some e) s, ?_, ?_, ?_, hframe⟩
  · rw [exec_segmentOffer h, hdecide]
    rfl
  · simp only [refuseSegment]
    rw [report_writes]
    rfl
  · simp only [refuseSegment]
    apply reported_of_agree <;> rw [takeWords_writes]

/-- Settles O6, refusal by refusal. -/
theorem offerRefusals : Obligations.OfferRefusals := by
  intro s m q g sp xs hoffered
  refine ⟨fun p hwrites hproducer hforeign => ?foreign, fun f hwrites hmay hopen howner => ?conflict,
    fun w k hcls hguard => ?bank, fun hreads hlead hlive hnone hbroken hstale hpolicy => ?stale⟩
  case foreign =>
    have hmay : mayProduce (s.cfg sp.window).producer m = false := by
      rw [hproducer]
      exact decide_eq_false hforeign
    exact offerRefused_of_refuse hoffered ((decideSegment_writesGuard hwrites).trans (decideWrite_foreign hmay))
  case conflict =>
    exact offerRefused_of_refuse hoffered ((decideSegment_writesGuard hwrites).trans (decideWrite_conflict hmay hopen howner))
  case bank =>
    refine offerRefused_of_refuse hoffered ?_
    simp only [decideSegment, hcls, decideBankRange, hguard]
  case stale =>
    have hown : OwnsNoFill s m sp.window sp.record := fun f hf => by
      rw [hnone] at hf
      cases hf
    refine offerRefused_of_refuse hoffered ?_
    rw [decideSegment_readsGuard hreads, decideRead_candidate hown hlead hbroken,
      decideCandidate_eq (fun _ => hnone) (.inl (isDraining_of_live hlive)), if_pos ⟨hstale, hpolicy⟩]

/-! ### The arbiter's order (R19) -/

theorem roundRobin_pairwise (last : Tag) :
    (roundRobin last).Pairwise fun a b => (a - (last + 1)).val < (b - (last + 1)).val := by
  rw [roundRobin, List.pairwise_map]
  refine (List.pairwise_lt_finRange 16).imp fun {a b} hab => ?_
  rw [add_sub_cancel_left, add_sub_cancel_left]
  exact hab

/-- In a list in order, what follows an element is what is above it. -/
theorem mem_after_iff {turns : Tag → Nat} {l pre post : List Tag} {n : Tag} (hsorted : l.Pairwise fun a b => turns a < turns b)
    (hall : ∀ a, a ∈ l) (hsplit : l = pre ++ n :: post) (a : Tag) : a ∈ post ↔ turns n < turns a := by
  subst hsplit
  obtain ⟨-, hback, hcross⟩ := List.pairwise_append.1 hsorted
  obtain ⟨hpost, -⟩ := List.pairwise_cons.1 hback
  refine ⟨hpost a, fun ha => ?_⟩
  rcases List.mem_append.1 (hall a) with hpre | hrest
  · exact absurd (hcross a hpre n (.head _)) (by omega)
  · rcases List.mem_cons.1 hrest with rfl | hmem
    · exact absurd ha (Nat.lt_irrefl _)
    · exact hmem

/-- The lanes after n in the arbiter's round are those whose turn is later, in order. -/
theorem remaining_spec {pre post : List Tag} {n : Tag} (h : roundRobin s.lastIssueLane = pre ++ n :: post) :
    (∀ l, l ∈ post ↔ turn s n < turn s l) ∧ post.Pairwise fun a b => turn s a < turn s b := by
  have hsorted : (roundRobin s.lastIssueLane).Pairwise fun a b => turn s a < turn s b := roundRobin_pairwise _
  refine ⟨mem_after_iff hsorted (mem_roundRobin _) h, ?_⟩
  rw [h] at hsorted
  obtain ⟨-, hback, -⟩ := List.pairwise_append.1 hsorted
  exact (List.pairwise_cons.1 hback).2

/-- A segment whose fate at its grant is another one takes it, and the arbiter chooses again among the lanes after its own. -/
theorem exec_granted_other (h : Granted s m q g) (hdecide : ∀ how, decideSegment s m q g ≠ .issue how) :
    ∃ pre post, roundRobin s.lastIssueLane = pre ++ m :: post ∧ exec .laneSegmentGrant s =
      .next (grantAgain (grantRound post) (carryOut m q g (decideSegment s m q g) s)) := by
  obtain ⟨pre, post, hround, hgrant⟩ := exec_granted h
  obtain ⟨-, -, -, hhead⟩ := h
  exact ⟨pre, post, hround, by rw [hgrant, grantLane_other _ hhead hdecide]⟩

theorem laneCandidate_iff (s : State) (m : Tag) : laneCandidate s m = true ↔ s.lanes[m].phase = .candidate := decide_eq_true_iff

theorem turn_ne {l n : Tag} (h : turn s l = turn s n) : l = n := sub_left_injective (Fin.ext h)

/-- Settles O7: the stall is the fate at both places, and without another candidate the grant ends there. -/
theorem leadReadStallsBehindFill : Obligations.LeadReadStallsBehindFill := by
  intro s m q g sp f hreads hlead hmode hopen howner hbroken
  have hown : OwnsNoFill s m sp.window sp.record := fun f' hf' => by
    obtain rfl : f = f' := Option.some.inj (hopen.symm.trans hf')
    exact howner
  have hdecide : decideSegment s m q g = .stall (.behindFill sp.window sp.record) := by
    rw [decideSegment_readsGuard hreads, decideRead_candidate hown hlead hbroken, decideCandidate_behindFill hmode hopen]
  refine ⟨fun hoffered => ?_, fun hgranted hothers => ?_⟩
  · rw [exec_segmentOffer hoffered, hdecide]
    rfl
  · obtain ⟨pre, post, hround, hgrant⟩ := exec_granted_other hgranted (by rw [hdecide]; nofun)
    obtain ⟨-, hturn, -, -⟩ := hgranted
    obtain ⟨-, hcopies, hreleased⟩ := laneTurn_iff.1 hturn
    let t := setPhase m (.stalled (.behindFill sp.window sp.record)) s
    have hcarried : carryOut m q g (decideSegment s m q g) s = t := by rw [hdecide]; rfl
    have hnone (n : Tag) (hn : n ∈ post) : laneCandidate t n = false := by
      have hlater := ((remaining_spec hround).1 n).1 hn
      have hne : m ≠ n := fun h => by subst h; exact Nat.lt_irrefl _ hlater
      refine decide_eq_false ?_
      simp only [t, setPhase, setLane_lanes]
      rw [getElem_set_other _ _ _ _ hne]
      exact hothers n hne.symm
    have hpark : t.park.any ParkEntry.isReleased = false := by
      rw [List.any_eq_false]
      exact fun e he hr => hreleased ⟨e, he, (isReleased_iff e).1 hr⟩
    rw [hgrant, hcarried, grantAgain_lanes (s := t) _ hcopies hpark, grantRound_none post hnone]
    rfl

/-- Settles O8: the lowest FREE entry and slot are chosen, and the read is bound to them. -/
theorem snapOpeningBinds : Obligations.SnapOpeningBinds := by
  intro s m q g sp i k hoffered hreads hlead hsnap hlive hshort hnone hfound hstale hentry hslot
  have hown : OwnsNoFill s m sp.window sp.record := fun f hf => by
    rw [hnone] at hf
    cases hf
  have hopens : MayOpen s m sp := ⟨hlead, hown, fun _ => hnone, fun i hi => (by rw [hfound] at hi; cases hi), hstale⟩
  have hchosen : chooseEntry s m sp.window sp.record = some i := by simp only [chooseEntry, hfound, hentry]
  have hdecide : decideSegment s m q g = .bind i k := by
    rw [decideSegment_readsGuard hreads, decideRead_opening hopens (.inl (isDraining_of_live hlive))]
    simp only [decideOpening, if_neg (Nat.ne_of_lt hshort), hchosen, hsnap, if_true, hslot]
  obtain ⟨-, -, hsp⟩ := hreads
  rw [exec_segmentOffer hoffered, hdecide, carryOut, ← hsp]
  rfl

end

end Sys2Proof.Machine
end

section
/-! SUPPORT. What a segment's other fate does to the lanes that remain (R13, R19): no operation makes a candidate of
another lane. -/

namespace Sys2Proof.Machine

open Sys2Proof.Statements

/-- The lanes but m that are candidates were candidates before. -/
def CandidatesKept (m : Tag) (s t : State) : Prop :=
  ∀ n : Tag, n ≠ m → t.lanes[n].phase = .candidate → s.lanes[n].phase = .candidate

namespace CandidatesKept

section
variable {m : Tag} {s t u : State}

theorem refl (m : Tag) (s : State) : CandidatesKept m s s := fun _ _ h => h

theorem trans (h : CandidatesKept m s t) (k : CandidatesKept m t u) : CandidatesKept m s u :=
  fun n hn hu => h n hn (k n hn hu)

theorem of_lanes (h : t.lanes = s.lanes) : CandidatesKept m s t := fun n _ ht => by rwa [h] at ht

/-- Each lane changed by itself, none into a candidate. -/
theorem of_map {f : Tag → Lane → Lane} (hlanes : t.lanes = tableMap f s.lanes)
    (h : ∀ (n : Tag) (l : Lane), (f n l).phase = .candidate → l.phase = .candidate) : CandidatesKept m s t := fun n _ ht => by
  rw [hlanes, getElem_tableMap] at ht
  exact h n _ ht

theorem of_own {l : Lane} (hlanes : t.lanes = s.lanes.set m l) : CandidatesKept m s t := fun n hn ht => by
  rwa [hlanes, getElem_set_other _ _ _ _ hn.symm] at ht

end

section
variable (m : Tag) (s : State)

theorem reofferWhen (p : Stall → Bool) : CandidatesKept m s (reofferWhen p s) := by
  refine of_map rfl fun n l h => ?_
  unfold Lane.reoffer at h
  split at h
  next =>
    split at h
    · cases h
    · exact h
  all_goals exact h

theorem recut (old : Vector Window 16) : CandidatesKept m s (recut old s) := by
  refine of_map rfl fun n l h => ?_
  unfold Lane.recut at h
  split at h
  next => exact h
  next => exact h
  all_goals
    split at h
    · exact h
    · split at h
      · exact h
      · cases h

theorem report (r : Report) : CandidatesKept m s (report r s) := of_lanes (by rw [report_writes])

theorem takeWords (fates : List WordState) : CandidatesKept m s (takeWords m fates s) := of_own (takeWords_lanes m fates s)

theorem activateFill (f : FillNo) (target : Option Bank) : CandidatesKept m s (activateFill f target s) :=
  (of_lanes rfl).trans (reofferWhen m _ _)

theorem tryActivate (w : WindowNo) (r : Nat) : CandidatesKept m s (tryActivate w r s) := by
  unfold Machine.tryActivate
  split
  · exact refl m s
  · split
    · split
      · exact refl m s
      · exact activateFill m s _ _
    · exact refl m s

theorem leftOpen (w : WindowNo) (r : Nat) : CandidatesKept m s (leftOpen w r s) :=
  (reofferWhen m s _).trans (tryActivate m _ w r)

theorem closeHold (i : HoldNo) : CandidatesKept m s (closeHold i s) := by
  rw [closeHold_eq, releaseSlot_setHold]
  exact trans (of_lanes rfl) (leftOpen m _ _ _)

theorem surrender (w : WindowNo) (r : Nat) : CandidatesKept m s (surrender m w r s) := by
  unfold Machine.surrender
  split
  · exact refl m s
  · split
    · exact closeHold m s _
    · split
      · exact of_lanes rfl
      · exact refl m s
    · exact refl m s
    · exact refl m s

theorem coverHold (i : HoldNo) (a n : Nat) : CandidatesKept m s (coverHold i a n s) := by
  simp only [Machine.coverHold]
  split
  · split
    · exact trans (of_lanes rfl) (closeHold m _ i)
    all_goals exact of_lanes rfl
  · exact of_lanes rfl

theorem drainTest (w : WindowNo) : CandidatesKept m s (drainTest w s) := by
  unfold Machine.drainTest
  split
  · refine trans (of_lanes ?_) (recut m _ _)
    rw [report_writes]
    rfl
  · exact refl m s

theorem parkSegment (f : FillNo) (sp : GuardSpan) (ws : List WriteWord) : CandidatesKept m s (parkSegment m f sp ws s) := by
  refine (takeWords m s (List.replicate sp.length parkedWord)).trans (of_lanes ?_)
  rw [Machine.parkSegment, parkWords_writes]

theorem parkOpeningSegment (f : FillNo) (sp : GuardSpan) (ws : List WriteWord) :
    CandidatesKept m s (parkOpeningSegment m f sp ws s) := by
  let u := Machine.surrender m sp.window sp.record s
  have hallocated : CandidatesKept m u (allocateFill f .waiting m sp.window sp.record none u) := of_lanes rfl
  exact ((surrender m s _ _).trans hallocated).trans (parkSegment m _ f sp ws)

theorem carryOut (q : Request) (g : Segment) (d : Decision) : CandidatesKept m s (carryOut m q g d s) := by
  unfold Machine.carryOut
  split
  · exact of_own rfl
  · unfold refuseSegment
    dsimp only
    split
    · exact takeWords m s _
    · exact (takeWords m s _).trans (report m _ _)
  · exact ((takeWords m s _).trans (coverHold m _ _ _ _)).trans (drainTest m _ _)
  · exact of_own rfl
  · exact parkSegment m s _ _ _
  · exact parkOpeningSegment m s _ _ _
  · exact of_own rfl
  · simp only [stallForFill]
    split
    · exact of_own rfl
    · exact trans (of_own rfl) (report m _ _)
  · simp only [stallForRoom]
    split
    · exact of_own rfl
    · exact trans (of_own rfl) (report m _ _)

end

end CandidatesKept

section
variable {s u : State} {m n : Tag} {pre post : List Tag}

/-- A lane that is a candidate after m's other fate has its turn after m's. -/
theorem turn_lt_of_candidate (hnext : nextLane s = some m) (hkept : CandidatesKept m s u) (hne : n ≠ m)
    (hcandidate : u.lanes[n].phase = .candidate) : turn s m < turn s n := by
  obtain ⟨-, hfirst⟩ := find?_roundRobin.1 hnext
  have hle : turn s m ≤ turn s n := hfirst n ((laneCandidate_iff s n).2 (hkept n hne hcandidate))
  exact lt_of_le_of_ne hle fun h => hne (turn_ne h.symm)

/-- The round goes on to the candidate whose turn comes first. -/
theorem grantRound_next (hpost : post.Pairwise fun a b => turn s a < turn s b) (hn : n ∈ post)
    (hcandidate : u.lanes[n].phase = .candidate)
    (hfirst : ∀ l ∈ post, u.lanes[l].phase = .candidate → turn s n ≤ turn s l) :
    ∃ pre' post', post = pre' ++ n :: post' ∧ grantRound post u = grantLane (grantAgain (grantRound post')) n u := by
  obtain ⟨pre', post', rfl⟩ := List.append_of_mem hn
  refine ⟨pre', post', rfl, ?_⟩
  obtain ⟨-, -, hcross⟩ := List.pairwise_append.1 hpost
  have hskip (l : Tag) (hl : l ∈ pre') : laneCandidate u l = false := by
    refine decide_eq_false fun hphase => ?_
    have hle := hfirst l (List.mem_append_left _ hl) hphase
    exact absurd (hcross l hl n (.head _)) (Nat.not_lt.2 hle)
  rw [grantRound_skip pre' _ hskip, grantRound, if_pos ((laneCandidate_iff u n).2 hcandidate)]

/-- Settles O13, by what the fate brought about: a copy request, a release, the next candidate, or nothing. -/
theorem grantJudgesAgain : Obligations.GrantJudgesAgain := by
  intro s m q g hgranted hdecide
  obtain ⟨pre, post, hround, hgrant⟩ := exec_granted_other hgranted hdecide
  obtain ⟨hsettled, hturn, hnext, hhead⟩ := hgranted
  obtain ⟨hroom, hcopies, hreleased⟩ := laneTurn_iff.1 hturn
  obtain ⟨hlater, hsorted⟩ := remaining_spec hround
  have hkept := CandidatesKept.carryOut m s q g (decideSegment s m q g)
  have hframe := carryOut_writes m q g (decideSegment s m q g) s
  generalize hu : carryOut m q g (decideSegment s m q g) s = u at hgrant hkept hframe
  have hinFlight : u.inFlight = s.inFlight := by
    have h := congrArg State.inFlight hframe
    exact h
  have hlast : u.lastIssueLane = s.lastIssueLane := by
    have h := congrArg State.lastIssueLane hframe
    exact h
  have hlanes (hc : u.copies = []) (hr : ¬ ∃ e ∈ u.park, ∃ a, e.condition = .released a) :
      grantAgain (grantRound post) u = grantRound post u := by
    refine grantAgain_lanes _ hc ?_
    rw [List.any_eq_false]
    exact fun e he hrel => hr ⟨e, he, (isReleased_iff e).1 hrel⟩
  refine ⟨hinFlight, hlast, fun k ks hc => ?copies, fun hc hr => ?release, fun hc hr hnone => ?nothing,
    fun n q' g' hc hr hn hhead' => ?next⟩
  case copies =>
    have hissue : canIssue u = true := decide_eq_true (by rw [hinFlight]; exact hroom)
    have hcopy : grantAgain (grantRound post) u = grantCopy u := by
      rw [grantAgain, hc]
      rfl
    have hissued : grantCopy u = copyMoved k.window k.record (issue k.toInFlight { u with copies := ks }) := by
      simp only [grantCopy, hc, hissue, if_true]
    refine ⟨grantCopy u, by rw [hgrant, hcopy], rfl, ?_, ?_⟩
    · rw [hissued]
      rfl
    · rw [hissued, ← hinFlight]
      rfl
  case release =>
    have hany : u.park.any ParkEntry.isReleased = true := by
      obtain ⟨e, he, ha⟩ := hr
      exact List.any_eq_true.2 ⟨e, he, (isReleased_iff e).2 ha⟩
    rw [hgrant, grantAgain, hc, hany]
    rfl
  case nothing =>
    rw [hgrant, hlanes hc hr, grantRound_none post fun n hn => ?_]
    refine decide_eq_false (hnone n fun h => ?_)
    subst h
    exact Nat.lt_irrefl _ ((hlater n).1 hn)
  case next =>
    obtain ⟨hne, hcandidate, hfirst⟩ := hn
    have hmem : n ∈ post := (hlater n).2 (turn_lt_of_candidate hnext hkept hne hcandidate)
    have hfirst' (l : Tag) (hl : l ∈ post) (hphase : u.lanes[l].phase = .candidate) : turn s n ≤ turn s l :=
      hfirst l (fun h => by subst h; exact Nat.lt_irrefl _ ((hlater l).1 hl)) hphase
    obtain ⟨pre', post', hsplit, hgoes⟩ := grantRound_next hsorted hmem hcandidate hfirst'
    have hwhole : roundRobin s.lastIssueLane = (pre ++ m :: pre') ++ n :: post' := by
      rw [hround, hsplit, List.append_assoc]
      rfl
    obtain ⟨hlater', hsorted'⟩ := remaining_spec hwhole
    refine ⟨fun how hissue => ?_, fun hother => ⟨post', hlater', hsorted', ?_⟩⟩
    · rw [hgrant, hlanes hc hr, hgoes, grantLane_issue _ hhead' hissue]
    · rw [hgrant, hlanes hc hr, hgoes, grantLane_other _ hhead' hother]

end

end Sys2Proof.Machine
end

section
/-! SUPPORT. Fates without a grant that change holds and fills (R14): continuations served from a slot (R131), writes that
are parked, and their stalls (R76, R99, R100). -/

namespace Sys2Proof.Machine

open Sys2Proof.Statements

section
variable {s t u : State} {m : Tag} {q : Request} {g : Segment} {sp : GuardSpan} {xs : List WriteWord} {w : WindowNo}
  {r : Nat} {i : HoldNo} {f : FillNo}

/-! ### States that agree on the tables -/

/-- The windows, the directory, the holds, the fills, the Park Queue and the slots of two states are the same. -/
def SameTables (s u : State) : Prop :=
  u.windows = s.windows ∧ u.directory = s.directory ∧ u.holds = s.holds ∧ u.fills = s.fills ∧ u.park = s.park
    ∧ u.slots = s.slots

theorem sameTables_takeWords (m : Tag) (fates : List WordState) (s : State) : SameTables s (takeWords m fates s) := by
  rw [takeWords_writes]
  exact ⟨rfl, rfl, rfl, rfl, rfl, rfl⟩

theorem SameTables.cfg (h : SameTables s u) (w : WindowNo) : u.cfg w = s.cfg w := by
  obtain ⟨hwindows, -⟩ := h
  rw [State.cfg, State.cfg, hwindows]

theorem SameTables.holds (h : SameTables s u) : u.holds = s.holds := by
  obtain ⟨-, -, hholds, -⟩ := h
  exact hholds

/-- A read that leaves words uncovered, in a state with the tables of s. -/
theorem coverHold_uncovered_of (h : SameTables s u) {a n : Nat}
    (huncovered : covers (s.cfg s.holds[i].window).guardLen.toNat (s.holds[i].coverage ||| offsetSet a n) = false) :
    coverHold i a n u = { u with
      holds := s.holds.set i { s.holds[i] with coverage := s.holds[i].coverage ||| offsetSet a n } } := by
  have hcovers : covers (u.cfg u.holds[i].window).guardLen.toNat (u.holds[i].coverage ||| offsetSet a n) = false := by
    rw [h.holds, h.cfg]
    exact huncovered
  rw [coverHold_uncovered hcovers, h.holds]

/-- A read that covers the last word of an OPEN hold, in a state with the tables of s. -/
theorem coverHold_closed_of (h : SameTables s u) {a n : Nat} (hopen : s.holds[i].state = .opened)
    (hcovered : covers (s.cfg s.holds[i].window).guardLen.toNat (s.holds[i].coverage ||| offsetSet a n) = true) :
    (coverHold i a n u).holds = s.holds.set i .cleared
      ∧ (coverHold i a n u).slots = (releaseSlot s.holds[i].slot s).slots
      ∧ FillTested { s with holds := s.holds.set i .cleared } s.holds[i].window s.holds[i].record (coverHold i a n u) := by
  have hopen' : u.holds[i].state = .opened := by rw [h.holds]; exact hopen
  have hcovers : covers (u.cfg u.holds[i].window).guardLen.toNat (u.holds[i].coverage ||| offsetSet a n) = true := by
    rw [h.holds, h.cfg]
    exact hcovered
  obtain ⟨hclosed, hslots, htested⟩ := coverHold_closed (s := u) hopen' hcovers
  obtain ⟨kwindows, kdirectory, kholds, kfills, kpark, kslots⟩ := h
  rw [kholds] at hclosed hslots htested
  refine ⟨hclosed, hslots.trans ?_, ?_⟩
  · cases s.holds[i].slot with
    | none => exact kslots
    | some k => simp only [releaseSlot, setSlot_slots, kslots]
  · exact fillTested_congr htested kwindows.symm kdirectory.symm rfl kfills.symm kpark.symm rfl rfl

theorem fillTested_of_holds {holds : Vector Hold 32} (h : t.holds = holds) (k : FillTested { s with holds := holds } w r t) :
    FillTested { s with holds := t.holds } w r t := by rw [h]; exact k

/-- A taken segment's requests depend on the requests alone. -/
theorem takeWords_reqs_congr (h : SameRequests s u) (m : Tag) (fates : List WordState) (n : Tag) :
    (takeWords m fates u).lanes[n].reqs = (takeWords m fates s).lanes[n].reqs := by
  by_cases hn : n = m
  · subst hn
    rw [takeWords_own, takeWords_own]
    simp only [Lane.advance]
    rw [h n]
  · rw [takeWords_other _ _ hn, takeWords_other _ _ hn]
    exact h n

/-- Settles O9, by whether words stay uncovered. -/
theorem slotServesContinuation : Obligations.SlotServesContinuation := by
  intro s m q g sp i k n ws hoffered hreads hsnap hlive hown hfound hopen hslot hloaded
  let beats := slotBeats ws (heldOrTorn s.holds[i].damagedAtOpen) sp.offset sp.length
  let u := takeWords m beats s
  let t := coverHold i sp.offset sp.length u
  obtain ⟨-, -, hw, hr⟩ := (isOf_iff _ _ _ _).1 (findHold_spec hfound)
  have htables : SameTables s u := sameTables_takeWords m beats s
  have hdecide : decideSegment s m q g = .serve i := by
    rw [decideSegment_readsGuard hreads, decideRead_opened hown hfound hopen, if_pos hsnap]
  have hwords : holdWords s i = ws := by simp only [holdWords, hslot, hloaded, slotWords]
  have hserved : exec (.segmentOffer m) s = .next t := by
    obtain ⟨-, -, hsp⟩ := hreads
    have hwindows : t.windows = s.windows := by
      simp only [t, u]
      rw [coverHold_writes, takeWords_writes]
    rw [exec_segmentOffer hoffered, hdecide, carryOut, ← hsp]
    simp only [serveSegment, hwords]
    exact congrArg Host.Outcome.next (drainTest_of_live hwindows hlive)
  have huf : u = { s with lanes := u.lanes, responseGrant := u.responseGrant } := takeWords_writes m beats s
  refine ⟨t, hserved, fun huncovered => ?_, fun hcovered => ?_⟩
  · have hafter : t = { u with holds := s.holds.set i { s.holds[i] with coverage := s.holds[i].coverage ||| offsetSet sp.offset sp.length } } :=
      coverHold_uncovered_of htables (by rw [hw]; exact huncovered)
    rw [hafter]
    refine ⟨rfl, rfl, ?_⟩
    rw [huf]
  · obtain ⟨hclosed, hslots, htested⟩ := coverHold_closed_of htables hopen (by rw [hw]; exact hcovered)
    refine ⟨hclosed, ?_, fun n => sameRequests_coverHold i _ _ u n, ?_, ?_⟩
    · rw [hslots, hslot]
      rfl
    · rw [hw, hr] at htested
      exact fillTested_of_holds hclosed htested
    · have hframe : t = { u with lanes := t.lanes, holds := t.holds, fills := t.fills, park := t.park, slots := t.slots } :=
        coverHold_writes i _ _ u
      have hgrant : t.responseGrant = u.responseGrant := by rw [hframe]
      rw [hgrant]
      rw [huf] at hframe
      exact hframe

/-! ### Writes that are parked (R76, R99) -/

theorem parkHasRoom_eq_true {n : Nat} (h : s.park.length + n ≤ 64) : parkHasRoom s n = true := decide_eq_true h

theorem parkHasRoom_eq_false {n : Nat} (h : 64 < s.park.length + n) : parkHasRoom s n = false :=
  decide_eq_false (Nat.not_le.2 h)

/-- Words parked: at the queue's tail, counted in the fill and in the window's counter. -/
theorem parkWords_eq (f : FillNo) (m : Tag) (sp : GuardSpan) (xs : List WriteWord) (s : State) : parkWords f m sp xs s =
    { s with
      fills := s.fills.set f { s.fills[f] with
        coverage := s.fills[f].coverage ||| fullWrites sp.offset xs, parked := s.fills[f].parked + xs.length }
      park := s.park
        ++ parkEntries ⟨f, s.fills[f].generation⟩ m sp ((s.cfg sp.window).dirIndex sp.record) sp.offset xs
      counters := (countTimes .writesParked sp.window xs.length s).counters } := by
  let v : State := { s with
    fills := s.fills.set f { s.fills[f] with
      coverage := s.fills[f].coverage ||| fullWrites sp.offset xs, parked := s.fills[f].parked + xs.length }
    park := s.park
      ++ parkEntries ⟨f, s.fills[f].generation⟩ m sp ((s.cfg sp.window).dirIndex sp.record) sp.offset xs }
  have hparked : parkWords f m sp xs s = countTimes .writesParked sp.window xs.length v := by
    simp only [parkWords, countCoverage, State.setFill, getElem_set_same, Vector.set_set]
    rfl
  have hcounters : (countTimes .writesParked sp.window xs.length v).counters
      = (countTimes .writesParked sp.window xs.length s).counters := countTimes_counters_congr _ _ _ rfl
  rw [hparked, countTimes_writes, hcounters]

/-- A stall for park room, reported in the first of an episode (R100). -/
theorem exec_stallForRoom (hoffered : Offered s m q g) (hsp : sp = segmentSpan s q g)
    (hdecide : decideSegment s m q g = .stallParkRoom) :
    exec (.segmentOffer m) s = .next
      (if s.lanes[m].parkFullNoted then { s with
          lanes := s.lanes.set m { s.lanes[m] with phase := .stalled (.parkRoom sp.window sp.record), parkFullNoted := true } }
       else report (.of .parkFull sp.window sp.record m) { s with
          lanes := s.lanes.set m
            { s.lanes[m] with phase := .stalled (.parkRoom sp.window sp.record), parkFullNoted := true } }) := by
  rw [exec_segmentOffer hoffered, hdecide, carryOut, ← hsp]
  rfl

/-! ### Openings that wait (R74, R94, R113) -/

theorem fillPlace_congr (hwindows : t.windows = s.windows) (hdirectory : t.directory = s.directory) (hholds : t.holds = s.holds)
    (w : WindowNo) (r : Nat) (m : Tag) : fillPlace t w r m = fillPlace s w r m := by
  have hcfg : t.cfg w = s.cfg w := by rw [State.cfg, State.cfg, hwindows]
  have hothers : otherOpenHolds t w r m = otherOpenHolds s w r m := by rw [otherOpenHolds, otherOpenHolds, hholds]
  have hentry : t.dirEntry w r = s.dirEntry w r := by rw [State.dirEntry, State.dirEntry, hcfg, hdirectory]
  have hpins : pinsOf t w r = pinsOf s w r := funext fun k => by rw [pinsOf, pinsOf, hholds]
  have hspare : spareBanks t w r = spareBanks s w r := by rw [spareBanks, spareBanks, hcfg, hentry, hpins]
  rw [fillPlace, hcfg, hothers, hspare, fillPlace]

/-- Where the fill is placed against the holds that remain once the master's own is given up. -/
theorem fillPlace_surrender (s : State) (m : Tag) (w : WindowNo) (r : Nat) :
    fillPlace (surrender m w r s) w r m = fillPlace { s with holds := givenUp s m w r } w r m := by
  refine fillPlace_congr ?_ ?_ (surrender_holds m w r s) w r m <;> rw [surrender_writes]

theorem decideFillOpening_waits (hpolicy : (s.cfg sp.window).yieldPolicy = .readersFirst)
    (hheld : ∀ target, ¬ MayBeActive { s with holds := givenUp s m sp.window sp.record } sp.window sp.record m target) :
    decideFillOpening s m sp f = if parkHasRoom s sp.length then .parkOpening f else .stallParkRoom := by
  simp only [decideFillOpening, fillPlace_surrender, fillPlace_none.2 hheld, hpolicy]

/-- In SNAP a fill may always be ACTIVE (R94). -/
theorem mayBeActive_snap (h : (s.cfg w).mode = .snap) : MayBeActive s w r m none := by
  simp only [MayBeActive, h]

/-- An opening parked: the master's entry given up, the fill allocated, its words parked. -/
theorem parkOpeningSegment_spec (hnone : openFill s sp.window sp.record = none)
    (ht : t = parkOpeningSegment m f sp xs s) :
    t.park = s.park
        ++ parkEntries ⟨f, s.fills[f].generation + 1⟩ m sp ((s.cfg sp.window).dirIndex sp.record) sp.offset xs
      ∧ t.fills = s.fills.set f
          { openedFill s m sp.window sp.record f (fullWrites sp.offset xs) with parked := xs.length }
      ∧ t.holds = givenUp s m sp.window sp.record
      ∧ (∀ n : Tag, t.lanes[n].reqs
          = (takeWords m (List.replicate sp.length (.done ⟨0, .okay, .plain⟩)) s).lanes[n].reqs)
      ∧ t.counters = (countTimes .writesParked sp.window xs.length s).counters
      ∧ SlotsFollow s t
      ∧ t = { s with
          lanes := t.lanes, responseGrant := t.responseGrant, holds := t.holds, slots := t.slots, fills := t.fills,
          park := t.park, counters := t.counters } := by
  let v := surrender m sp.window sp.record s
  let x := allocateFill f .waiting m sp.window sp.record none v
  let y := takeWords m (List.replicate sp.length parkedWord) x
  have hv : v = { s with lanes := v.lanes, holds := v.holds, fills := v.fills, park := v.park, slots := v.slots } :=
    surrender_writes m sp.window sp.record s
  obtain ⟨hfills, hpark⟩ : v.fills = s.fills ∧ v.park = s.park := surrender_of_none hnone
  obtain ⟨hslots, -⟩ := slotStep_surrender m sp.window sp.record s
  have hcounters : v.counters = s.counters := by rw [hv]
  have hcfg : v.cfg = s.cfg := by rw [hv]; rfl
  have hxf : x.fills = s.fills.set f (openedFill s m sp.window sp.record f 0) := by
    simp only [x, allocateFill, setFill_fills, hfills]
    rfl
  have hy : y = { x with lanes := y.lanes, responseGrant := y.responseGrant } := takeWords_writes m _ x
  have hparked : t = parkWords f m sp xs y := ht
  rw [parkWords_eq] at hparked
  have hyf : y.fills = s.fills.set f (openedFill s m sp.window sp.record f 0) := by rw [hy]; exact hxf
  have hyp : y.park = s.park := by rw [hy]; exact hpark
  have hyc : y.cfg = s.cfg := by rw [hy]; exact hcfg
  have hyn : (countTimes .writesParked sp.window xs.length y).counters = (countTimes .writesParked sp.window xs.length s).counters :=
    countTimes_counters_congr _ _ _ (by rw [hy]; exact hcounters)
  have hentry : y.fills[f] = openedFill s m sp.window sp.record f 0 := by rw [hyf]; exact getElem_set_same _ _ _
  have htf : t.fills = s.fills.set f { openedFill s m sp.window sp.record f (fullWrites sp.offset xs) with parked := xs.length } := by
    rw [hparked]
    dsimp only
    rw [hentry, hyf, Vector.set_set]
    change s.fills.set f { openedFill s m sp.window sp.record f (0 ||| fullWrites sp.offset xs) with parked := 0 + xs.length } = _
    have hcoverage : (0 : BitVec 16) ||| fullWrites sp.offset xs = fullWrites sp.offset xs := BitVec.zero_or
    rw [hcoverage, Nat.zero_add]
  have hth : t.holds = v.holds := by rw [hparked, hy]; rfl
  have hts : t.slots = v.slots := by rw [hparked, hy]; rfl
  refine ⟨?_, htf, hth.trans (surrender_holds m _ _ s), fun n => ?_, ?_, ?_, ?_⟩
  · rw [hparked]
    simp only [hentry, hyp, hyc]
    rfl
  · rw [hparked]
    exact takeWords_reqs_congr (s := s) (u := x) (sameRequests_surrender m _ _ s) m _ n
  · rw [hparked]
    exact hyn
  · unfold SlotsFollow
    simp only [hth, hts]
    exact hslots
  · rw [ht]
    exact parkOpeningSegment_writes m f sp xs s

/-- Settles O10, by the fill the write continues or opens and by the room in the queue. -/
theorem waitingWriteParksOrStalls : Obligations.WaitingWriteParksOrStalls := by
  intro s m q g sp xs f hoffered hwrites hmay
  have hlength := length_of_writesGuard hwrites
  have hdecideWrite : decideSegment s m q g = decideWrite s m sp := decideSegment_writesGuard hwrites
  obtain ⟨-, -, hsp, hxs⟩ := hwrites
  rw [← hlength]
  refine ⟨fun hopen howner hwaits habandoned huncovered => ⟨fun hroom => ?parks, fun hfull => ?stalls⟩,
    fun hlive hnone hfree hpolicy hheld => ⟨fun hroom => ?opens, fun hfull => ?stallsOpening⟩⟩
  case parks =>
    let u := takeWords m (List.replicate sp.length parkedWord) s
    have hdecide : decideSegment s m q g = .park f := by
      rw [hdecideWrite, decideWrite_own hmay hopen howner habandoned huncovered, if_pos hwaits, if_pos (parkHasRoom_eq_true hroom)]
    have hu : u = { s with lanes := u.lanes, responseGrant := u.responseGrant } := takeWords_writes m _ s
    have hcounters : (countTimes .writesParked sp.window xs.length u).counters
        = (countTimes .writesParked sp.window xs.length s).counters := countTimes_counters_congr _ _ _ (by rw [hu])
    refine ⟨parkWords f m sp xs u, ?_, ?_⟩
    · rw [exec_segmentOffer hoffered, hdecide, carryOut, ← hsp, ← hxs]
      rfl
    · rw [parkWords_eq, hcounters, hu]
      exact ⟨rfl, rfl, rfl, rfl, rfl⟩
  case stalls =>
    refine exec_stallForRoom hoffered hsp ?_
    rw [hdecideWrite, decideWrite_own hmay hopen howner habandoned huncovered, if_pos hwaits,
      if_neg (by rw [parkHasRoom_eq_false hfull]; decide)]
  case opens =>
    have hcopy : NoUnissuedCopy s sp.window sp.record := fun hsnap =>
      (hheld none (mayBeActive_snap hsnap)).elim
    refine ⟨parkOpeningSegment m f sp xs s, ?_, parkOpeningSegment_spec hnone rfl⟩
    have hdecide : decideSegment s m q g = .parkOpening f := by
      rw [hdecideWrite, decideWrite_opening hmay hnone (isDraining_of_live hlive) hcopy hfree,
        decideFillOpening_waits hpolicy hheld, if_pos (parkHasRoom_eq_true hroom)]
    rw [exec_segmentOffer hoffered, hdecide, carryOut, ← hsp, ← hxs]
  case stallsOpening =>
    have hcopy : NoUnissuedCopy s sp.window sp.record := fun hsnap =>
      (hheld none (mayBeActive_snap hsnap)).elim
    refine exec_stallForRoom hoffered hsp ?_
    rw [hdecideWrite, decideWrite_opening hmay hnone (isDraining_of_live hlive) hcopy hfree,
      decideFillOpening_waits hpolicy hheld, if_neg (by rw [parkHasRoom_eq_false hfull]; decide)]

end

end Sys2Proof.Machine
end

section
/-! SUPPORT. Reads granted (R13): the entry of an opening (R51), openings and refusals for lack of a resource (R50, R52,
R55), continuations (R54, R64), and the own view (R87, R88, R103). -/

namespace Sys2Proof.Machine

open Sys2Proof.Statements

section
variable {s t u : State} {m : Tag} {q : Request} {g : Segment} {sp : GuardSpan} {w : WindowNo} {r : Nat} {i : HoldNo}
  {f : FillNo}

/-! ### The entry of an opening (R51) -/

/-- Entry i comes before entry j at a reclaim: less linger, or as much and the lower number (R51). -/
def ReclaimedBefore (s : State) (i j : HoldNo) : Prop :=
  s.holds[i].countdown < s.holds[j].countdown ∨ (s.holds[i].countdown = s.holds[j].countdown ∧ i ≤ j)

theorem reclaimedBefore_antisymm {i j : HoldNo} (h : ReclaimedBefore s i j) (k : ReclaimedBefore s j i) : i = j := by
  unfold ReclaimedBefore at h k
  rcases h with h | ⟨heq, hij⟩
  · rcases k with k | ⟨keq, -⟩
    · bv_omega
    · bv_omega
  · rcases k with k | ⟨-, hji⟩
    · bv_omega
    · exact le_antisymm hij hji

theorem leastLinger_eq_none {is : List HoldNo} : leastLinger s is = none ↔ is = [] := by
  cases is with
  | nil => exact ⟨fun _ => rfl, fun _ => rfl⟩
  | cons i is =>
    refine ⟨fun h => ?_, nofun⟩
    simp only [leastLinger] at h
    split at h
    · cases h
    · split at h <;> cases h

/-- Of listed entries in order, the one chosen comes before each. -/
theorem leastLinger_spec {is : List HoldNo} (hsorted : is.Pairwise (· < ·)) (h : leastLinger s is = some i) :
    i ∈ is ∧ ∀ j ∈ is, ReclaimedBefore s i j := by
  induction is generalizing i with
  | nil => cases h
  | cons k is ih =>
    obtain ⟨hfirst, hrest⟩ := List.pairwise_cons.1 hsorted
    have hself : ReclaimedBefore s k k := .inr ⟨rfl, le_refl k⟩
    simp only [leastLinger] at h
    split at h
    next hnone =>
      obtain rfl := Option.some.inj h
      obtain rfl := leastLinger_eq_none.1 hnone
      exact ⟨.head _, fun j hj => by rw [List.mem_singleton.1 hj]; exact hself⟩
    next l hl =>
      obtain ⟨hmem, hmin⟩ := ih hrest hl
      split at h
      next hless =>
        obtain rfl := Option.some.inj h
        refine ⟨.tail _ hmem, fun j hj => ?_⟩
        rcases List.mem_cons.1 hj with rfl | hj
        · exact .inl hless
        · exact hmin j hj
      next hmore =>
        obtain rfl := Option.some.inj h
        refine ⟨.head _, fun j hj => ?_⟩
        rcases List.mem_cons.1 hj with rfl | hj
        · exact hself
        · have hkj : k ≤ j := le_of_lt (hfirst j hj)
          rcases hmin j hj with hlt | ⟨heq, -⟩
          · exact .inl (by bv_omega)
          · by_cases hequal : s.holds[k].countdown = s.holds[j].countdown
            · exact .inr ⟨hequal, hkj⟩
            · exact .inl (by bv_omega)

theorem settledBroken_iff (s : State) (i : HoldNo) : s.holds[i].isSettledBroken = true ↔ SettledBroken s i := by
  simp only [Hold.isSettledBroken, SettledBroken, Bool.and_eq_true, decide_eq_true_eq]

/-- The entry reclaimed is the settled BROKEN one that comes before the others. -/
theorem leastLinger_settled : leastLinger s (tableAll Hold.isSettledBroken s.holds) = some i ↔
    SettledBroken s i ∧ ∀ j, SettledBroken s j → ReclaimedBefore s i j := by
  have hmem (j : HoldNo) : j ∈ tableAll Hold.isSettledBroken s.holds ↔ SettledBroken s j := by
    rw [mem_tableAll, settledBroken_iff]
  have hsorted : (tableAll Hold.isSettledBroken s.holds).Pairwise (· < ·) := (List.pairwise_lt_finRange 32).filter _
  refine ⟨fun h => ?_, fun ⟨hi, hmin⟩ => ?_⟩
  · obtain ⟨hi, hmin⟩ := leastLinger_spec hsorted h
    exact ⟨(hmem i).1 hi, fun j hj => hmin j ((hmem j).2 hj)⟩
  · cases hchosen : leastLinger s (tableAll Hold.isSettledBroken s.holds) with
    | none =>
      have hi' := (hmem i).2 hi
      rw [leastLinger_eq_none.1 hchosen] at hi'
      cases hi'
    | some k =>
      obtain ⟨hk, kmin⟩ := leastLinger_spec hsorted hchosen
      rw [reclaimedBefore_antisymm (kmin i ((hmem i).2 hi)) (hmin k ((hmem k).1 hk))]

/-- The entry chosen is the one the statements say (R51). -/
theorem chooseEntry_iff : chooseEntry s m w r = some i ↔ Chosen s m w r i := by
  unfold chooseEntry Chosen
  cases hfound : findHold s m w r with
  | some k =>
    dsimp only
    rw [← settledBroken_iff]
    constructor
    · intro h
      split at h
      next hsettled => cases h; exact .inl ⟨rfl, hsettled⟩
      next => cases h
    · rintro (⟨hki, hsettled⟩ | ⟨hnone, -⟩ | ⟨hnone, -⟩)
      · cases hki
        rw [if_pos hsettled]
      · cases hnone
      · cases hnone
  | none =>
    dsimp only
    cases hfree : tableFind (fun h : Hold => decide (h.state = .free)) s.holds with
    | some k =>
      have hlowest := tableFind_eq_some_iff.1 hfree
      simp only [decide_eq_true_eq] at hlowest
      obtain ⟨hk, hmin⟩ := hlowest
      constructor
      · intro h
        cases h
        exact .inr (.inl ⟨rfl, hk, hmin⟩)
      · rintro (⟨hnone, -⟩ | ⟨-, hi, imin⟩ | ⟨-, hall, -⟩)
        · cases hnone
        · rw [le_antisymm (hmin i hi) (imin k hk)]
        · exact absurd hk (hall k)
    | none =>
      have hall (j : HoldNo) : s.holds[j].state ≠ .free := by
        simpa only [decide_eq_false_iff_not] using tableFind_none.1 hfree j
      dsimp only
      rw [leastLinger_settled]
      constructor
      · rintro ⟨hi, hmin⟩
        exact .inr (.inr ⟨rfl, hall, hi, hmin⟩)
      · rintro (⟨hnone, -⟩ | ⟨-, hi, -⟩ | ⟨-, -, hi, hmin⟩)
        · cases hnone
        · exact absurd hi (hall i)
        · exact ⟨hi, hmin⟩

theorem chooseEntry_none (h : ∀ i, ¬ Chosen s m w r i) : chooseEntry s m w r = none :=
  Option.eq_none_iff_forall_ne_some.2 fun i hi => h i (chooseEntry_iff.1 hi)

/-! ### Coverage of a part of the guard words (R56) -/

theorem getLsbD_offsetSet_zero {n j : Nat} (hj : j < 16) : (offsetSet 0 n).getLsbD j = decide (j < n) := by
  rw [offsetSet, BitVec.getLsbD_ofNat, Nat.pow_zero, Nat.mul_one, Nat.testBit_two_pow_sub_one]
  simp only [hj, decide_true, Bool.true_and]

theorem zero_or_coverage (x : BitVec 16) : 0 ||| x = x := BitVec.zero_or

/-- Fewer words than the guard words do not cover them. -/
theorem covers_offsetSet_zero {n k : Nat} (hn : n < k) (hk : k ≤ 16) : covers k (0 ||| offsetSet 0 n) = false := by
  rw [covers, zero_or_coverage, beq_eq_false_iff_ne]
  intro h
  have hbit := congrArg (fun x : BitVec 16 => x.getLsbD n) h
  simp only [BitVec.getLsbD_and, getLsbD_offsetSet_zero (show n < 16 by omega)] at hbit
  simp [hn] at hbit

/-! ### The issue of a guard read -/

/-- The request of a guard read. -/
def guardReadRequest (s : State) (m : Tag) (q : Request) (g : Segment) (sp : GuardSpan) (bank : Option Bank)
    (hold : Option HoldNo) (overlay : List WriteWord) : InFlight :=
  ⟨⟨recordWord (s.cfg sp.window) bank sp.record sp.offset, .read g.length⟩,
    .laneRead ⟨m, q.place, g.first, g.length⟩ (some ⟨sp.window, sp.record, hold⟩) overlay⟩

section
variable (m q g sp) (bank : Option Bank) (guard : GuardStatus) (hold : Option HoldNo) (overlay : List WriteWord) (s : State)

theorem issueGuardRead_inFlight : (issueGuardRead m q g sp bank guard hold overlay s).inFlight =
    s.inFlight ++ [guardReadRequest s m q g sp bank hold overlay] := issueRead_inFlight _ _ _ _ _

theorem issueGuardRead_lanes : (issueGuardRead m q g sp bank guard hold overlay s).lanes =
    (takeWords m (List.replicate g.length (.pending guard)) s).lanes := issueRead_lanes _ _ _ _ _

theorem sameTables_issueGuardRead : SameTables s (issueGuardRead m q g sp bank guard hold overlay s) := by
  rw [issueGuardRead_writes]
  exact ⟨rfl, rfl, rfl, rfl, rfl, rfl⟩

end

end

end Sys2Proof.Machine
end

section
/-! SUPPORT. Reads granted (R13): statements O14, O15 and O20. -/

namespace Sys2Proof.Machine

open Sys2Proof.Statements

section
variable {s t u : State} {m : Tag} {q : Request} {g : Segment} {sp : GuardSpan} {w : WindowNo} {r : Nat} {i : HoldNo}
  {f : FillNo}

/-! ### Openings (R50, R52, R55) -/

/-- An entry that has just been loaded by an opening in a SINGLE or BANKED window (R50). -/
def openedHold (s : State) (m : Tag) (w : WindowNo) (r : Nat) (coverage : BitVec 16) : Hold :=
  { state := .opened, master := m, window := w, record := r, versionSeen := (s.dirEntry w r).version,
    damagedAtOpen := (s.dirEntry w r).damaged, pinnedBank := plainBank s w r, slot := none, coverage := coverage,
    countdown := (s.cfg w).holdLimit, reason := none, leftService := false }

theorem segmentSpan_lastIssueLane (h : ReadsGuard s q g sp) : segmentSpan { s with lastIssueLane := m } q g = sp := by
  obtain ⟨-, -, hsp⟩ := h
  exact hsp.symm

/-- The opening of an entry that the read does not cover. -/
theorem issueSegment_opening (hspan : segmentSpan s q g = sp) (hlead : sp.offset = 0)
    (hshort : sp.length < (s.cfg sp.window).guardLen.toNat) (hguard : (s.cfg sp.window).guardLen.toNat ≤ 16)
    (ht : t = issueSegment m q g (.opening i) s) :
    t.inFlight = s.inFlight ++ [guardReadRequest s m q g sp (plainBank s sp.window sp.record) (some i) []]
      ∧ t.lanes = (takeWords m
          (List.replicate g.length (.pending (heldOrTorn (s.dirEntry sp.window sp.record).damaged))) s).lanes
      ∧ t.holds = s.holds.set i (openedHold s m sp.window sp.record (offsetSet 0 sp.length))
      ∧ t.counters = counted .holdsOpened sp.window s
      ∧ t = { s with
          lanes := t.lanes, responseGrant := t.responseGrant, inFlight := t.inFlight, holds := t.holds
          counters := t.counters } := by
  let bank := plainBank s sp.window sp.record
  let l := loadHold i .opened m sp.window sp.record bank none s
  let y := issueGuardRead m q g sp bank (heldOrTorn (s.dirEntry sp.window sp.record).damaged) (some i) [] l
  have hissued : t = coverHold i sp.offset sp.length y := by
    rw [ht, issueSegment, hspan]
    rfl
  have hloaded : l.holds = s.holds.set i (openedHold s m sp.window sp.record 0) := rfl
  have hentry : l.holds[i] = openedHold s m sp.window sp.record 0 := getElem_set_same _ _ _
  have hafter := coverHold_uncovered_of (s := l) (u := y) (i := i) (a := sp.offset) (n := sp.length)
    (sameTables_issueGuardRead m q g sp bank _ _ _ l)
    (by rw [hentry, hlead]; exact covers_offsetSet_zero hshort hguard)
  rw [← hissued, hentry, hloaded, Vector.set_set, hlead] at hafter
  have hinFlight : y.inFlight = s.inFlight ++ [guardReadRequest s m q g sp bank (some i) []] :=
    issueGuardRead_inFlight m q g sp bank _ _ _ l
  have hlanes : y.lanes = (takeWords m (List.replicate g.length
      (.pending (heldOrTorn (s.dirEntry sp.window sp.record).damaged))) s).lanes :=
    (issueGuardRead_lanes m q g sp bank _ _ _ l).trans (takeWords_lanes_congr m _ rfl)
  have hy : y = { l with lanes := y.lanes, responseGrant := y.responseGrant, inFlight := y.inFlight } :=
    issueGuardRead_writes m q g sp bank _ _ _ l
  refine ⟨by rw [hafter]; exact hinFlight, by rw [hafter]; exact hlanes, ?_, ?_, ?_⟩
  · rw [hafter]
    change s.holds.set i (openedHold s m sp.window sp.record (0 ||| offsetSet 0 sp.length)) = _
    rw [zero_or_coverage]
  · rw [hafter, hy]
    rfl
  · rw [hafter, hy]
    rfl

/-- A BROKEN entry of the master is freed by a read of every guard word (R55). -/
theorem freeOwnBroken_holds (hbroken : ∀ i, findHold s m w r = some i → s.holds[i].state = .broken) :
    (freeOwnBroken m w r s).holds = givenUp s m w r := by
  unfold freeOwnBroken givenUp
  cases hfound : findHold s m w r with
  | none => rfl
  | some i =>
    have hstate := hbroken i hfound
    by_cases hslot : s.holds[i].slot = none
    · have hsettled : s.holds[i].isSettledBroken = true := (settledBroken_iff s i).2 ⟨hstate, hslot⟩
      simp only [hsettled, if_true]
      rw [if_pos (.inr ⟨hstate, hslot⟩)]
      rfl
    · have hunsettled : s.holds[i].isSettledBroken ≠ true := fun h => hslot ((settledBroken_iff s i).1 h).2
      have hstays : ¬ (s.holds[i].state = .opened ∨ s.holds[i].state = .broken ∧ s.holds[i].slot = none) := by
        rintro (h | ⟨-, h⟩)
        · rw [hstate] at h
          cases h
        · exact hslot h
      dsimp only
      rw [if_neg hunsettled, if_neg hstays]

/-- A read of every guard word (R55). -/
theorem issueSegment_wholeRecord (hspan : segmentSpan s q g = sp)
    (hbroken : ∀ i, findHold s m sp.window sp.record = some i → s.holds[i].state = .broken)
    (ht : t = issueSegment m q g .wholeRecord s) :
    t.inFlight = s.inFlight ++ [guardReadRequest s m q g sp (plainBank s sp.window sp.record) none []]
      ∧ t.lanes = (takeWords m
          (List.replicate g.length (.pending (heldOrTorn (s.dirEntry sp.window sp.record).damaged))) s).lanes
      ∧ t.holds = givenUp s m sp.window sp.record
      ∧ t = { s with
          lanes := t.lanes, responseGrant := t.responseGrant, inFlight := t.inFlight, holds := t.holds } := by
  let bank := plainBank s sp.window sp.record
  let l := freeOwnBroken m sp.window sp.record s
  let y := issueGuardRead m q g sp bank (heldOrTorn (s.dirEntry sp.window sp.record).damaged) none [] l
  have hl : l = { s with holds := l.holds } := freeOwnBroken_writes m sp.window sp.record s
  have hissued : t = y := by
    rw [ht, issueSegment, hspan]
    rfl
  have hinFlight : y.inFlight = l.inFlight ++ [guardReadRequest l m q g sp bank none []] :=
    issueGuardRead_inFlight m q g sp bank _ _ _ l
  have hlanes : y.lanes = (takeWords m (List.replicate g.length
      (.pending (heldOrTorn (s.dirEntry sp.window sp.record).damaged))) l).lanes :=
    issueGuardRead_lanes m q g sp bank _ _ _ l
  have hy : y = { l with lanes := y.lanes, responseGrant := y.responseGrant, inFlight := y.inFlight } :=
    issueGuardRead_writes m q g sp bank _ _ _ l
  have hholds : y.holds = l.holds := by rw [hy]
  rw [hissued]
  refine ⟨hinFlight.trans ?_, hlanes.trans (takeWords_lanes_congr m _ (by rw [hl])),
    hholds.trans (freeOwnBroken_holds hbroken), ?_⟩
  · rw [hl]
    rfl
  · rw [hholds]
    rw [hl] at hy
    exact hy

/-- A read denied its hold (R52, R126). -/
theorem issueSegment_denied {lacks : Resource} (hspan : segmentSpan s q g = sp)
    (ht : t = issueSegment m q g (.denied lacks) s) :
    t.inFlight = s.inFlight ++ [guardReadRequest s m q g sp (plainBank s sp.window sp.record) none []]
      ∧ t.lanes = (takeWords m (List.replicate g.length (.pending .denied)) s).lanes
      ∧ t.counters = counted .holdsDenied sp.window s
      ∧ Reported ⟨.holdDenied, some sp.window, some sp.record, some m, some lacks, 1⟩ s t
      ∧ t = { s with
          lanes := t.lanes, responseGrant := t.responseGrant, inFlight := t.inFlight, counters := t.counters
          events := t.events, alertLow := t.alertLow } := by
  let y := issueGuardRead m q g sp (plainBank s sp.window sp.record) .denied none [] s
  let z := report (deniedReport m sp lacks) y
  have hissued : t = count .holdsDenied sp.window z := by
    rw [ht, issueSegment, hspan]
    rfl
  have hinFlight : y.inFlight = s.inFlight ++ [guardReadRequest s m q g sp (plainBank s sp.window sp.record) none []] :=
    issueGuardRead_inFlight m q g sp _ _ _ _ s
  have hlanes : y.lanes = (takeWords m (List.replicate g.length (.pending .denied)) s).lanes :=
    issueGuardRead_lanes m q g sp _ _ _ _ s
  have hy : y = { s with lanes := y.lanes, responseGrant := y.responseGrant, inFlight := y.inFlight } :=
    issueGuardRead_writes m q g sp _ _ _ _ s
  have hz : z = { s with
      lanes := y.lanes, responseGrant := y.responseGrant, inFlight := y.inFlight, events := z.events, alertLow := z.alertLow } := by
    have hreport : z = { y with events := z.events, alertLow := z.alertLow } := report_writes (deniedReport m sp lacks) y
    rw [hy] at hreport
    exact hreport
  have hreported : Reported (deniedReport m sp lacks) s z := reported_of_agree _ (by rw [hy]) (by rw [hy]) (by rw [hy])
  rw [hissued]
  refine ⟨?_, ?_, ?_, hreported, ?_⟩
  · change z.inFlight = _
    rw [hz]
    exact hinFlight
  · change z.lanes = _
    rw [hz]
    exact hlanes
  · simp only [count, counted]
    rw [hz]
  · simp only [count]
    rw [hz]

/-- Settles O14, by the entry chosen, or by the resource that is lacking. -/
theorem grantOpensHold : Obligations.GrantOpensHold := by
  intro s m q g sp hgranted hreads hopens
  have hspan : segmentSpan { s with lastIssueLane := m } q g = sp := segmentSpan_lastIssueLane hreads
  have hdecide := decideSegment_readsGuard (m := m) hreads
  have hissue (how : IssueKind) (h : decideRead s m sp = .issue how) :
      exec .laneSegmentGrant s = .next (issueSegment m q g how { s with lastIssueLane := m }) :=
    exec_granted_issue hgranted (hdecide.trans h)
  have hopening (hlive : Live s sp.window) : decideRead s m sp = decideOpening s m sp :=
    decideRead_opening hopens (.inl (isDraining_of_live hlive))
  have hwhole (hlength : sp.length = (s.cfg sp.window).guardLen.toNat) : decideRead s m sp = decideOpening s m sp :=
    decideRead_opening hopens (.inr hlength)
  obtain ⟨hlead, -, -, hbroken, -⟩ := hopens
  refine ⟨fun i hmode hlive hshort hguard hchosen => ?opening, fun hlength => ?whole, fun hlive hpart hnone => ?entry,
    fun i hlive hpart hsnap hchosen hslots => ?slot⟩
  case opening =>
    have hjudged : decideRead s m sp = .issue (.opening i) := by
      rw [hopening hlive, decideOpening]
      simp only [if_neg (Nat.ne_of_lt hshort), chooseEntry_iff.2 hchosen, if_neg hmode]
    obtain ⟨hinFlight, hlanes, hholds, hcounters, hframe⟩ :=
      issueSegment_opening (s := { s with lastIssueLane := m }) (m := m) (i := i) hspan hlead hshort hguard rfl
    simp only [guardReadRequest, hlead] at hinFlight
    exact ⟨_, ⟨hissue _ hjudged, hinFlight, hlanes.trans (takeWords_lanes_congr m _ rfl)⟩, hholds, hcounters, hframe⟩
  case whole =>
    have hjudged : decideRead s m sp = .issue .wholeRecord := by
      rw [hwhole hlength, decideOpening]
      simp only [if_pos hlength]
    obtain ⟨hinFlight, hlanes, hholds, hframe⟩ :=
      issueSegment_wholeRecord (s := { s with lastIssueLane := m }) (m := m) hspan hbroken rfl
    simp only [guardReadRequest, hlead] at hinFlight
    exact ⟨_, ⟨hissue _ hjudged, hinFlight, hlanes.trans (takeWords_lanes_congr m _ rfl)⟩, hholds, hframe⟩
  case entry =>
    have hjudged : decideRead s m sp = .issue (.denied .entry) := by
      rw [hopening hlive, decideOpening]
      simp only [if_neg hpart, chooseEntry_none hnone]
    obtain ⟨hinFlight, hlanes, hcounters, hreported, hframe⟩ :=
      issueSegment_denied (s := { s with lastIssueLane := m }) (m := m) (lacks := .entry) hspan rfl
    simp only [guardReadRequest, hlead] at hinFlight
    exact ⟨_, ⟨hissue _ hjudged, hinFlight, hlanes.trans (takeWords_lanes_congr m _ rfl)⟩, hcounters,
      reported_of_state hreported rfl rfl rfl, hframe⟩
  case slot =>
    have hslot : freeSlot s = none := tableFind_none.2 fun k => decide_eq_false (hslots k)
    have hjudged : decideRead s m sp = .issue (.denied .slot) := by
      rw [hopening hlive, decideOpening]
      simp only [if_neg hpart, chooseEntry_iff.2 hchosen, if_pos hsnap, hslot]
    obtain ⟨hinFlight, hlanes, hcounters, hreported, hframe⟩ :=
      issueSegment_denied (s := { s with lastIssueLane := m }) (m := m) (lacks := .slot) hspan rfl
    simp only [guardReadRequest, hlead] at hinFlight
    exact ⟨_, ⟨hissue _ hjudged, hinFlight, hlanes.trans (takeWords_lanes_congr m _ rfl)⟩, hcounters,
      reported_of_state hreported rfl rfl rfl, hframe⟩

end

end Sys2Proof.Machine
end

section
/-! SUPPORT. Continuations granted (R54, R56, R57, R64), and the own view under its overlay (R87, R88, R103): statements
O15 and O20. -/

namespace Sys2Proof.Machine

open Sys2Proof.Statements

section
variable {s t u : State} {m : Tag} {q : Request} {g : Segment} {sp : GuardSpan} {w : WindowNo} {r : Nat} {i : HoldNo}
  {f : FillNo}

/-! ### Continuations -/

/-- A read by a master whose entry is BROKEN, in a state with the tables of s (R64). -/
theorem coverHold_broken_of (h : SameTables s u) {a n : Nat} (hbroken : s.holds[i].state = .broken) :
    coverHold i a n u = { u with
      holds := s.holds.set i
        (if covers (s.cfg s.holds[i].window).guardLen.toNat (s.holds[i].coverage ||| offsetSet a n) then .cleared
         else { s.holds[i] with coverage := s.holds[i].coverage ||| offsetSet a n }) } := by
  cases hcovers : covers (s.cfg s.holds[i].window).guardLen.toNat (s.holds[i].coverage ||| offsetSet a n) with
  | false => exact coverHold_uncovered_of h hcovers
  | true =>
    have hbroken' : u.holds[i].state = .broken := by rw [h.holds]; exact hbroken
    have hcovers' : covers (u.cfg u.holds[i].window).guardLen.toNat (u.holds[i].coverage ||| offsetSet a n) = true := by
      rw [h.holds, h.cfg]
      exact hcovers
    rw [coverHold_frees hbroken' hcovers', h.holds]
    rfl

/-- The continuation of an OPEN hold of a LIVE window (R54): issued to its pin, its words counted. -/
theorem issueSegment_continuation (hspan : segmentSpan s q g = sp) (hlive : Live s sp.window)
    (ht : t = issueSegment m q g (.continuation i) s) : ∃ y : State, t = coverHold i sp.offset sp.length y ∧ SameTables s y
      ∧ y.inFlight = s.inFlight ++ [guardReadRequest s m q g sp s.holds[i].pinnedBank (some i) []]
      ∧ y.lanes = (takeWords m (List.replicate g.length (.pending (heldOrTorn s.holds[i].damagedAtOpen))) s).lanes
      ∧ y = { s with lanes := y.lanes, responseGrant := y.responseGrant, inFlight := y.inFlight } := by
  let y := issueGuardRead m q g sp s.holds[i].pinnedBank (heldOrTorn s.holds[i].damagedAtOpen) (some i) [] s
  have hy : y = { s with lanes := y.lanes, responseGrant := y.responseGrant, inFlight := y.inFlight } :=
    issueGuardRead_writes m q g sp _ _ _ _ s
  have hwindows : (coverHold i sp.offset sp.length y).windows = s.windows := by
    rw [coverHold_writes, hy]
  have hissued : t = coverHold i sp.offset sp.length y := by
    rw [ht, issueSegment, hspan]
    exact drainTest_of_live hwindows hlive
  exact ⟨y, hissued, sameTables_issueGuardRead m q g sp _ _ _ _ s, issueGuardRead_inFlight m q g sp _ _ _ _ s,
    issueGuardRead_lanes m q g sp _ _ _ _ s, hy⟩

/-- The continuation of a BROKEN entry (R64). -/
theorem issueSegment_brokenContinuation (hspan : segmentSpan s q g = sp) (hbroken : s.holds[i].state = .broken)
    (ht : t = issueSegment m q g (.brokenContinuation i) s) :
    t.inFlight = s.inFlight ++ [guardReadRequest s m q g sp (plainBank s sp.window sp.record) (some i) []]
      ∧ t.lanes = (takeWords m (List.replicate g.length (.pending .torn)) s).lanes
      ∧ t.holds = s.holds.set i
          (if covers (s.cfg s.holds[i].window).guardLen.toNat (s.holds[i].coverage ||| offsetSet sp.offset sp.length) then
             .cleared
           else { s.holds[i] with coverage := s.holds[i].coverage ||| offsetSet sp.offset sp.length })
      ∧ t = { s with
          lanes := t.lanes, responseGrant := t.responseGrant, inFlight := t.inFlight, holds := t.holds } := by
  let y := issueGuardRead m q g sp (plainBank s sp.window sp.record) .torn (some i) [] s
  have hy : y = { s with lanes := y.lanes, responseGrant := y.responseGrant, inFlight := y.inFlight } :=
    issueGuardRead_writes m q g sp _ _ _ _ s
  have hissued : t = coverHold i sp.offset sp.length y := by
    rw [ht, issueSegment, hspan]
    rfl
  have hafter := coverHold_broken_of (u := y) (i := i) (a := sp.offset) (n := sp.length)
    (sameTables_issueGuardRead m q g sp _ _ _ _ s) hbroken
  rw [hissued, hafter]
  refine ⟨issueGuardRead_inFlight m q g sp _ _ _ _ s, issueGuardRead_lanes m q g sp _ _ _ _ s, rfl, ?_⟩
  rw [hy]

/-- A read without the lead word by a master without an entry (R47, case 5). -/
theorem issueSegment_unguarded (hspan : segmentSpan s q g = sp) (ht : t = issueSegment m q g .unguarded s) :
    t.inFlight = s.inFlight ++ [guardReadRequest s m q g sp (plainBank s sp.window sp.record) none []]
      ∧ t.lanes = (takeWords m
          (List.replicate g.length (.pending (plainOrTorn (s.dirEntry sp.window sp.record).damaged))) s).lanes
      ∧ t = { s with lanes := t.lanes, responseGrant := t.responseGrant, inFlight := t.inFlight } := by
  have hissued : t = issueGuardRead m q g sp (plainBank s sp.window sp.record)
      (plainOrTorn (s.dirEntry sp.window sp.record).damaged) none [] s := by
    rw [ht, issueSegment, hspan]
    rfl
  rw [hissued]
  exact ⟨issueGuardRead_inFlight m q g sp _ _ _ _ s, issueGuardRead_lanes m q g sp _ _ _ _ s,
    issueGuardRead_writes m q g sp _ _ _ _ s⟩

/-- Settles O15, by the master's entry: OPEN, BROKEN, or none. -/
theorem grantContinuesHold : Obligations.GrantContinuesHold := by
  intro s m q g sp hgranted hreads hown
  let v : State := { s with lastIssueLane := m }
  have hspan : segmentSpan v q g = sp := segmentSpan_lastIssueLane hreads
  have hdecide := decideSegment_readsGuard (m := m) hreads
  have hissue (how : IssueKind) (h : decideRead s m sp = .issue how) :
      exec .laneSegmentGrant s = .next (issueSegment m q g how v) := exec_granted_issue hgranted (hdecide.trans h)
  refine ⟨fun i hfound => ⟨fun hmode hlive hopen => ?opened, fun hbroken hlead => ?broken⟩, fun hnone hlead => ?unguarded⟩
  case opened =>
    obtain ⟨-, -, hw, hr⟩ := (isOf_iff _ _ _ _).1 (findHold_spec hfound)
    have hjudged : decideRead s m sp = .issue (.continuation i) := by
      rw [decideRead_opened hown hfound hopen, if_neg hmode]
    obtain ⟨y, hafter, htables, hinFlight, hlanes, hy⟩ :=
      issueSegment_continuation (s := v) (m := m) (i := i) hspan hlive rfl
    have hlanes' : y.lanes = (takeWords m (List.replicate g.length (.pending (heldOrTorn s.holds[i].damagedAtOpen))) s).lanes :=
      hlanes.trans (takeWords_lanes_congr m _ rfl)
    have hnext := hissue _ hjudged
    rw [hafter] at hnext
    have htables' : SameTables s y := htables
    refine ⟨_, ⟨hnext, (coverHold_inFlight i _ _ y).trans hinFlight⟩, fun huncovered => ?_, fun hcovered => ?_⟩
    · rw [coverHold_uncovered_of htables' (by rw [hw]; exact huncovered)]
      refine ⟨hlanes', rfl, ?_⟩
      rw [hy]
    · obtain ⟨hclosed, hslots, htested⟩ := coverHold_closed_of htables' hopen (by rw [hw]; exact hcovered)
      obtain ⟨hfollow, -⟩ := SlotStep.left (x := .cleared) hopen nofun hclosed hslots
      refine ⟨fun n => ?_, hclosed, ?_, hfollow, ?_⟩
      · rw [sameRequests_coverHold, hlanes']
      · rw [hw, hr] at htested
        exact fillTested_of_holds hclosed htested
      · rw [coverHold_writes, hy]
  case broken =>
    obtain ⟨-, -, hw, -⟩ := (isOf_iff _ _ _ _).1 (findHold_spec hfound)
    have hjudged : decideRead s m sp = .issue (.brokenContinuation i) := decideRead_broken hown hfound hbroken hlead
    obtain ⟨hinFlight, hlanes, hholds, hframe⟩ :=
      issueSegment_brokenContinuation (s := v) (m := m) (i := i) hspan hbroken rfl
    refine ⟨_, ⟨hissue _ hjudged, hinFlight⟩, hlanes.trans (takeWords_lanes_congr m _ rfl), ?_, hframe⟩
    have hcfg : v.cfg v.holds[i].window = s.cfg sp.window := by rw [hw]; rfl
    rw [hcfg] at hholds
    exact hholds
  case unguarded =>
    have hjudged : decideRead s m sp = .issue .unguarded := decideRead_unguarded hown hnone hlead
    obtain ⟨hinFlight, hlanes, hframe⟩ := issueSegment_unguarded (s := v) (m := m) hspan rfl
    exact ⟨_, ⟨hissue _ hjudged, hinFlight⟩, hlanes.trans (takeWords_lanes_congr m _ rfl), hframe⟩

/-! ### The overlay (R88, R103) -/

/-- Bit j of the mask of a word's byte enables is the enable of its byte. -/
theorem getLsbD_byteMask : ∀ (a b c d : Bool) (j : Fin 32),
    ((if a then 0x000000FF else 0) ||| (if b then 0x0000FF00 else 0) ||| (if c then 0x00FF0000 else 0)
      ||| (if d then 0xFF000000 else 0) : Word).getLsbD j.val
      = if j.val < 8 then a else if j.val < 16 then b else if j.val < 24 then c else d := by
  decide

theorem getLsbD_overlayWord (d : Word) (x : WriteWord) (k : Fin 4) {j : Nat} (hj : j < 8) :
    (overlayWord d x).getLsbD (8 * k.val + j) =
      if x.enables.getLsbD k.val then x.data.getLsbD (8 * k.val + j) else d.getLsbD (8 * k.val + j) := by
  have hbit : 8 * k.val + j < 32 := by omega
  have hmask := getLsbD_byteMask (x.enables.getLsbD 0) (x.enables.getLsbD 1) (x.enables.getLsbD 2) (x.enables.getLsbD 3)
    ⟨8 * k.val + j, hbit⟩
  have henable : (if 8 * k.val + j < 8 then x.enables.getLsbD 0 else if 8 * k.val + j < 16 then x.enables.getLsbD 1
      else if 8 * k.val + j < 24 then x.enables.getLsbD 2 else x.enables.getLsbD 3) = x.enables.getLsbD k.val := by
    have hbyte : k.val = 0 ∨ k.val = 1 ∨ k.val = 2 ∨ k.val = 3 := by omega
    rcases hbyte with h | h | h | h <;> rw [h]
    · rw [if_pos (by omega)]
    · rw [if_neg (by omega), if_pos (by omega)]
    · rw [if_neg (by omega), if_neg (by omega), if_pos (by omega)]
    · rw [if_neg (by omega), if_neg (by omega), if_neg (by omega)]
  rw [henable] at hmask
  simp only [overlayWord, BitVec.getLsbD_or, BitVec.getLsbD_and, BitVec.getLsbD_not] at hmask ⊢
  rw [hmask]
  cases x.enables.getLsbD k.val <;> simp [hbit]

/-- A byte of memory's word is replaced exactly where its enable is set (R88). -/
theorem byteOf_overlayWord (d : Word) (x : WriteWord) (k : Fin 4) :
    byteOf k (overlayWord d x) = if x.enables.getLsbD k.val then byteOf k x.data else byteOf k d := by
  refine BitVec.eq_of_getLsbD_eq fun j hj => ?_
  have hbits := getLsbD_overlayWord d x k hj
  cases henable : x.enables.getLsbD k.val <;> simp_all [byteOf]

theorem overlayWord_zero (d : Word) : overlayWord d ⟨0, 0⟩ = d := by
  change (d &&& BitVec.allOnes 32) ||| ((0 : Word) &&& 0) = d
  rw [BitVec.and_allOnes]
  exact BitVec.or_zero

/-- Memory's beats under an overlay, beat by beat. -/
theorem overlayBeats_eq (beats : List MemBeat) (ov : List WriteWord) :
    overlayBeats beats ov = beats.mapIdx fun j b => ⟨overlayWord b.data (ov.getD j ⟨0, 0⟩), b.status⟩ := by
  induction beats generalizing ov with
  | nil => cases ov <;> rfl
  | cons b bs ih =>
    cases ov with
    | nil =>
      have hrest := ih []
      have hplain : overlayBeats bs [] = bs := by cases bs <;> rfl
      simp only [hplain, List.getD_nil, overlayWord_zero] at hrest
      simp only [overlayBeats, List.mapIdx_cons, List.getD_nil, overlayWord_zero]
      rw [← hrest]
    | cons x xs =>
      rw [overlayBeats, List.mapIdx_cons, ih]
      rfl

/-- The byte k of an overlay's word is that of the last entry that enables it (R103). -/
theorem byteOf_overlay (es : List ParkEntry) (k : Fin 4) :
    let x := es.foldl (fun acc e => overlayOver acc e.word) ⟨0, 0⟩
    let last := (es.filter fun e => e.word.enables.getLsbD k.val).getLast?
    x.enables.getLsbD k.val = last.isSome ∧ ∀ e, last = some e → byteOf k x.data = byteOf k e.word.data := by
  induction es using List.reverseRecOn with
  | nil => exact ⟨by simp, nofun⟩
  | append_singleton es e ih =>
    obtain ⟨henable, hbyte⟩ := ih
    dsimp only
    rw [List.foldl_append, List.filter_append]
    simp only [List.foldl_cons, List.foldl_nil, overlayOver, BitVec.getLsbD_or, byteOf_overlayWord]
    cases hset : e.word.enables.getLsbD k.val with
    | true => simp [hset]
    | false =>
      have hnone : [e].filter (fun e => e.word.enables.getLsbD k.val) = [] := by
        simp only [List.filter_cons, List.filter_nil, hset, Bool.false_eq_true, if_false]
      rw [hnone, List.append_nil, Bool.or_false]
      exact ⟨henable, fun e' he' => hbyte e' he'⟩

theorem overlayFrom_length (park : List ParkEntry) (ref : FillRef) (a n : Nat) : (overlayFrom park ref a n).length = n := by
  induction n generalizing a with
  | zero => rfl
  | succ n ih => exact congrArg (· + 1) (ih (a + 1))

theorem overlayFrom_getElem? (park : List ParkEntry) (ref : FillRef) (a : Nat) {n j : Nat} {x : WriteWord}
    (h : (overlayFrom park ref a n)[j]? = some x) : x = overlayOf park ref (a + j) := by
  induction n generalizing a j with
  | zero => simp [overlayFrom] at h
  | succ n ih =>
    cases j with
    | zero => exact (Option.some.inj h).symm
    | succ j =>
      have hrest := ih (a + 1) h
      rwa [Nat.add_assoc, Nat.add_comm 1] at hrest

/-- The overlay of one word, byte by byte, over the parked words of the fill with its offset. -/
theorem byteOf_overlayOf (park : List ParkEntry) (ref : FillRef) (j : Nat) (k : Fin 4) :
    let last := (park.filter fun e => decide (e.fill = some ref ∧ e.offset = j
      ∧ e.word.enables.getLsbD k.val = true)).getLast?
    (overlayOf park ref j).enables.getLsbD k.val = last.isSome
      ∧ ∀ e, last = some e → byteOf k (overlayOf park ref j).data = byteOf k e.word.data := by
  have hbytes := byteOf_overlay (park.filter fun e => decide (e.fill = some ref) && decide (e.offset = j)) k
  rw [List.filter_filter] at hbytes
  have hsame : (park.filter fun e => decide (e.fill = some ref ∧ e.offset = j ∧ e.word.enables.getLsbD k.val = true))
      = park.filter fun e => e.word.enables.getLsbD k.val && (decide (e.fill = some ref) && decide (e.offset = j)) := by
    refine List.filter_congr fun e _ => ?_
    rw [Bool.eq_iff_iff]
    simp only [decide_eq_true_eq, Bool.and_eq_true]
    exact ⟨fun ⟨hfill, hoffset, hset⟩ => ⟨hset, hfill, hoffset⟩, fun ⟨hset, hfill, hoffset⟩ => ⟨hfill, hoffset, hset⟩⟩
  rw [hsame]
  exact hbytes

/-! ### The own view (R87, R88) -/

theorem issueSegment_ownView (hspan : segmentSpan s q g = sp) (hopen : openFill s sp.window sp.record = some f)
    (ht : t = issueSegment m q g (.ownView f) s) :
    t.inFlight = s.inFlight ++ [guardReadRequest s m q g sp
        (if s.fills[f].state = .active then s.fills[f].target else plainBank s sp.window sp.record) none
        (overlayFrom s.park ⟨f, s.fills[f].generation⟩ sp.offset sp.length)]
      ∧ t.lanes = (takeWords m (List.replicate g.length (.pending .plain)) s).lanes
      ∧ t = { s with lanes := t.lanes, responseGrant := t.responseGrant, inFlight := t.inFlight } := by
  obtain ⟨hstate, hw, hr⟩ := openFill_spec hopen
  have hbank : ownViewBank s f = if s.fills[f].state = .active then s.fills[f].target else plainBank s sp.window sp.record := by
    rw [ownViewBank]
    cases hs : s.fills[f].state with
    | active => rfl
    | waiting => simp only [hw, hr]; rfl
    | free => exact absurd hs hstate
  have hissued : t = issueGuardRead m q g sp (ownViewBank s f) .plain none
      (overlayFrom s.park ⟨f, s.fills[f].generation⟩ sp.offset sp.length) s := by
    rw [ht, issueSegment, hspan]
    rfl
  rw [hissued, ← hbank]
  exact ⟨issueGuardRead_inFlight m q g sp _ _ _ _ s, issueGuardRead_lanes m q g sp _ _ _ _ s,
    issueGuardRead_writes m q g sp _ _ _ _ s⟩

/-- Settles O20: the response placed under its overlay, the overlay's bytes, and the grant that keeps the overlay. -/
theorem readResponsePlaced : Obligations.ReadResponsePlaced := by
  refine ⟨fun s x rest p o ov beats hsettled hlist horigin hlength => ?response, byteOf_overlayWord,
    fun s m q g sp f hgranted hreads hopen howner _ => ?view⟩
  case response =>
    let v : State := { s with inFlight := rest }
    have hanswer : exec (.segmentResponse (.read beats)) s = .next (answerRead p ov beats v) := by
      rw [exec_segmentResponse hsettled, respondSegment, hlist]
      simp only [horigin, hlength, if_true]
      rfl
    have hframe := answerRead_writes p ov beats v
    refine ⟨_, hanswer, by rw [hframe], ?_, fun n hn => placeWords_other p _ v hn, hframe⟩
    refine (placeWords_own p _ v).trans ?_
    rw [overlayBeats_eq]
    rfl
  case view =>
    have hspan : segmentSpan { s with lastIssueLane := m } q g = sp := segmentSpan_lastIssueLane hreads
    have hdecide : decideSegment s m q g = .issue (.ownView f) :=
      (decideSegment_readsGuard hreads).trans (decideRead_ownView hopen howner)
    obtain ⟨hinFlight, hlanes, hframe⟩ :=
      issueSegment_ownView (s := { s with lastIssueLane := m }) (m := m) hspan hopen rfl
    refine ⟨_, overlayFrom s.park ⟨f, s.fills[f].generation⟩ sp.offset sp.length, exec_granted_issue hgranted hdecide,
      hinFlight, overlayFrom_length _ _ _ _, fun j x k hx => ?_, hlanes.trans (takeWords_lanes_congr m _ rfl), hframe⟩
    rw [overlayFrom_getElem? _ _ _ hx]
    exact byteOf_overlayOf s.park ⟨f, s.fills[f].generation⟩ (sp.offset + j) k

end

end Sys2Proof.Machine
end

section
/-! SUPPORT. Writes granted (R13): how a fill opens (R74, R94, R95, R112, R115), and the issue of its writes (R76, R77,
R80, R81): statements O16 and O17. -/

namespace Sys2Proof.Machine

open Sys2Proof.Statements

section
variable {s t u x : State} {m : Tag} {q : Request} {g : Segment} {sp : GuardSpan} {xs : List WriteWord} {w : WindowNo}
  {r : Nat} {i : HoldNo} {f : FillNo} {target : Option Bank} {ys : List HoldNo}

/-! ### How a fill opens -/

/-- An OPEN hold of the record is in the way of a fill of master m with this target bank (R95, R115). -/
def inTheWay (s : State) (w : WindowNo) (m : Tag) (target : Option Bank) (h : Hold) : Bool :=
  match (s.cfg w).mode with
  | .single => decide (h.master ≠ m)
  | .banked => decide (h.pinnedBank = target)
  | .snap => false

theorem mem_yielding :
    i ∈ yielding s w r m target ↔ s.holds[i].isOpenOn w r = true ∧ inTheWay s w m target s.holds[i] = true := by
  rw [yielding, List.mem_filter, Bool.and_eq_true]
  exact ⟨fun ⟨_, h⟩ => h, fun h => ⟨List.mem_finRange i, h⟩⟩

/-- Nothing yields to a fill that may be ACTIVE at once. -/
theorem yielding_of_mayBeActive (h : MayBeActive s w r m target) : yielding s w r m target = [] := by
  refine List.eq_nil_iff_forall_not_mem.2 fun i hi => ?_
  obtain ⟨hopen, hway⟩ := mem_yielding.1 hi
  rw [← openOn_iff] at hopen
  unfold MayBeActive at h
  cases hmode : (s.cfg w).mode with
  | single =>
    simp only [inTheWay, hmode] at h hway
    obtain ⟨-, hown⟩ := h
    exact of_decide_eq_true hway (hown i hopen)
  | banked =>
    simp only [inTheWay, hmode] at h hway
    obtain ⟨k, rfl, ⟨-, -, hpins⟩, -⟩ := h
    exact hpins i hopen (of_decide_eq_true hway)
  | snap =>
    simp only [inTheWay, hmode] at hway
    cases hway

theorem otherOpenHolds_eq (h : (s.cfg w).mode = .single) (target : Option Bank) :
    otherOpenHolds s w r m = yielding s w r m target := by
  simp only [otherOpenHolds, yielding, tableAll, h]

theorem pinsOf_eq (h : (s.cfg w).mode = .banked) (k : Bank) (m : Tag) : pinsOf s w r k = yielding s w r m (some k) := by
  simp only [pinsOf, yielding, tableAll, h]

/-- What the opening of a fill is judged by: the holds after the master has given up its own entry. -/
def afterSurrender (s : State) (m : Tag) (w : WindowNo) (r : Nat) : State := { s with holds := givenUp s m w r }

/-- A fill that the statements say opens ACTIVE is judged so, with the holds that yield. -/
theorem decideFillOpening_opens (h : OpensActive (afterSurrender s m sp.window sp.record) sp.window sp.record m target) :
    decideFillOpening s m sp f = .issue
      (.fillOpening f target (yielding (afterSurrender s m sp.window sp.record) sp.window sp.record m target)) := by
  let u := afterSurrender s m sp.window sp.record
  have hplace : fillPlace (surrender m sp.window sp.record s) sp.window sp.record m = fillPlace u sp.window sp.record m :=
    fillPlace_surrender s m sp.window sp.record
  rcases h with hmay | ⟨hheld, hpolicy, hmode⟩
  · have hnow : fillPlace u sp.window sp.record m = some target := (fillPlace_iff target).2 hmay
    simp only [decideFillOpening, hplace, hnow, yielding_of_mayBeActive hmay]
  · have hpolicy' : (s.cfg sp.window).yieldPolicy = .writerFirst := hpolicy
    have hwait : fillPlace u sp.window sp.record m = none := fillPlace_none.2 hheld
    have hholds : (surrender m sp.window sp.record s).holds = u.holds := surrender_holds m sp.window sp.record s
    rcases hmode with ⟨hsingle, rfl⟩ | ⟨hbanked, hsome, hbank⟩
    · have hsingle' : (s.cfg sp.window).mode = .single := hsingle
      have hothers : otherOpenHolds (surrender m sp.window sp.record s) sp.window sp.record m
          = otherOpenHolds u sp.window sp.record m := by rw [otherOpenHolds, otherOpenHolds, hholds]
      simp only [decideFillOpening, hplace, hwait, hpolicy', hsingle', hothers]
      rw [otherOpenHolds_eq hsingle none]
    · have hbanked' : (s.cfg sp.window).mode = .banked := hbanked
      obtain ⟨k, rfl⟩ := Option.ne_none_iff_exists'.1 hsome
      have hlowest : lowestOtherBank (surrender m sp.window sp.record s) sp.window sp.record = some k := by
        have hsame : lowestOtherBank (surrender m sp.window sp.record s) sp.window sp.record
            = otherBank u sp.window sp.record := by
          rw [surrender_writes]
          rfl
        rw [hsame, ← hbank]
      have hpins : pinsOf (surrender m sp.window sp.record s) sp.window sp.record k = pinsOf u sp.window sp.record k := by
        rw [pinsOf, pinsOf, hholds]
      simp only [decideFillOpening, hplace, hwait, hpolicy', hbanked', hlowest, hpins]
      rw [pinsOf_eq hbanked k m]

/-! ### The issue of a fill's write -/

/-- The state in which the fill of an issued write is told. -/
def writeIssued (m : Tag) (q : Request) (g : Segment) (sp : GuardSpan) (f : FillNo) (s : State) : State :=
  issueWrite m q g (recordWord (s.cfg sp.window) s.fills[f].target sp.record sp.offset)
    (some ⟨sp.window, sp.record, (s.cfg sp.window).dirIndex sp.record, fillRef s f⟩)
    (countCoverage f sp.offset (requestWords q g) s)

/-- The fill with the words of a write counted (R77). -/
def coveredFill (s : State) (f : FillNo) (sp : GuardSpan) (xs : List WriteWord) : Fill :=
  { s.fills[f] with coverage := s.fills[f].coverage ||| fullWrites sp.offset xs }

theorem writeIssued_spec (hxs : xs = requestWords q g) (ht : t = writeIssued m q g sp f s) :
    t.inFlight = s.inFlight ++ [⟨⟨recordWord (s.cfg sp.window) s.fills[f].target sp.record sp.offset, .write xs⟩,
        .laneWrite ⟨m, q.place, g.first, g.length⟩
          (some ⟨sp.window, sp.record, (s.cfg sp.window).dirIndex sp.record, ⟨f, s.fills[f].generation⟩⟩)⟩]
      ∧ t.lanes = (takeWords m (List.replicate g.length (.pending .plain)) s).lanes
      ∧ t.fills = s.fills.set f (coveredFill s f sp xs)
      ∧ t = { s with
          lanes := t.lanes, responseGrant := t.responseGrant, inFlight := t.inFlight, fills := t.fills } := by
  have hframe := issueWrite_writes m q g (recordWord (s.cfg sp.window) s.fills[f].target sp.record sp.offset)
    (some ⟨sp.window, sp.record, (s.cfg sp.window).dirIndex sp.record, fillRef s f⟩)
    (countCoverage f sp.offset (requestWords q g) s)
  have hfills : t.fills = s.fills.set f (coveredFill s f sp xs) := by
    rw [ht, hxs]
    exact congrArg State.fills hframe
  refine ⟨?_, ?_, hfills, ?_⟩
  · rw [ht, hxs]
    exact issueWrite_inFlight _ _ _
  · rw [ht]
    exact (issueWrite_lanes _ _ _).trans (takeWords_lanes_congr m _ rfl)
  · rw [hfills, hxs]
    rw [ht]
    exact hframe

theorem issueFillWrite_eq (m : Tag) (q : Request) (g : Segment) (sp : GuardSpan) (f : FillNo) (s : State) :
    issueFillWrite m q g sp f s = drainTest sp.window (fillIssued f (writeIssued m q g sp f s)) := rfl

/-- A write that leaves words of its fill uncovered. -/
theorem issueFillWrite_uncovered (hlive : Live s sp.window) (hxs : xs = requestWords q g)
    (hw : s.fills[f].window = sp.window) (habandoned : s.fills[f].abandoned = false)
    (huncovered : covers (s.cfg sp.window).guardLen.toNat (s.fills[f].coverage ||| fullWrites sp.offset xs) = false) :
    issueFillWrite m q g sp f s = writeIssued m q g sp f s := by
  obtain ⟨-, -, hfills, hframe⟩ := writeIssued_spec (s := s) (m := m) (f := f) (sp := sp) hxs rfl
  have hentry : (writeIssued m q g sp f s).fills[f] = coveredFill s f sp xs := by
    rw [hfills]
    exact getElem_set_same _ _ _
  have hcfg : (writeIssued m q g sp f s).cfg = s.cfg := by
    rw [hframe]
    rfl
  have hstays : fillIssued f (writeIssued m q g sp f s) = writeIssued m q g sp f s := by
    refine fillIssued_of_uncovered ?_ ?_ <;> rw [hentry]
    · exact habandoned
    · rw [hcfg]
      simp only [coveredFill, hw]
      exact huncovered
  rw [issueFillWrite_eq, hstays]
  exact drainTest_of_live (u := s) (by rw [hframe]) hlive

/-- A write that completes the coverage of its ACTIVE fill publishes it (R80). -/
theorem issueFillWrite_covered (hlive : Live s sp.window) (hxs : xs = requestWords q g) (hactive : s.fills[f].state = .active)
    (hw : s.fills[f].window = sp.window) (habandoned : s.fills[f].abandoned = false) (hparked : s.fills[f].parked = 0)
    (hcovered : covers (s.cfg sp.window).guardLen.toNat (s.fills[f].coverage ||| fullWrites sp.offset xs) = true) :
    issueFillWrite m q g sp f s = publish f (writeIssued m q g sp f s) := by
  obtain ⟨-, -, hfills, hframe⟩ := writeIssued_spec (s := s) (m := m) (f := f) (sp := sp) hxs rfl
  have hentry : (writeIssued m q g sp f s).fills[f] = coveredFill s f sp xs := by
    rw [hfills]
    exact getElem_set_same _ _ _
  have hcfg : (writeIssued m q g sp f s).cfg = s.cfg := by
    rw [hframe]
    rfl
  have hpublishes : fillIssued f (writeIssued m q g sp f s) = publish f (writeIssued m q g sp f s) := by
    refine fillIssued_of_covered ?_ ?_ ?_ ?_ <;> rw [hentry]
    · exact hactive
    · exact hparked
    · exact habandoned
    · rw [hcfg]
      simp only [coveredFill, hw]
      exact hcovered
  rw [issueFillWrite_eq, hpublishes]
  exact drainTest_of_live (u := s) (by rw [publish_writes, hframe]) hlive

/-- What a publishing write leaves behind. -/
theorem publish_writeIssued (hxs : xs = requestWords q g) (hdir : dirWf s.directory) (hw : s.fills[f].window = sp.window)
    (hr : s.fills[f].record = sp.record) (ht : t = publish f (writeIssued m q g sp f s)) :
    (∀ j, dirGet t.directory j = if (s.cfg sp.window).dirIndex sp.record = j then
        publishedEntry s.timeBase.value s.fills[f] (s.dirEntry sp.window sp.record) else dirGet s.directory j)
      ∧ t.fills = s.fills.set f (.cleared s.fills[f].generation)
      ∧ t.inFlight = s.inFlight ++ [⟨⟨recordWord (s.cfg sp.window) s.fills[f].target sp.record sp.offset, .write xs⟩,
        .laneWrite ⟨m, q.place, g.first, g.length⟩
          (some ⟨sp.window, sp.record, (s.cfg sp.window).dirIndex sp.record, ⟨f, s.fills[f].generation⟩⟩)⟩]
      ∧ (∀ n : Tag, t.lanes[n].reqs = (takeWords m (List.replicate g.length (.pending .plain)) s).lanes[n].reqs)
      ∧ t.counters = counted .fillsPublished sp.window s
      ∧ Reported (.of .fillPublished sp.window sp.record s.fills[f].owner) s t
      ∧ t = { s with
          lanes := t.lanes, responseGrant := t.responseGrant, inFlight := t.inFlight, directory := t.directory
          fills := t.fills, counters := t.counters, events := t.events, alertLow := t.alertLow } := by
  obtain ⟨hinFlight, hlanes, hfills, hframe⟩ := writeIssued_spec (s := s) (m := m) (f := f) (sp := sp) hxs rfl
  generalize hy : writeIssued m q g sp f s = y at ht hinFlight hlanes hfills hframe
  have hentry : y.fills[f] = coveredFill s f sp xs := by
    rw [hfills]
    exact getElem_set_same _ _ _
  have hcfg : y.cfg = s.cfg := by rw [hframe]; rfl
  have hdirectory : y.directory = s.directory := by rw [hframe]
  have hclock : y.timeBase = s.timeBase := by rw [hframe]
  have hwindow : y.fills[f].window = sp.window := by rw [hentry]; exact hw
  have hrecord : y.fills[f].record = sp.record := by rw [hentry]; exact hr
  have hpublished := publish_writes f y
  rw [← ht] at hpublished
  refine ⟨fun j => ?_, ?_, ?_, fun n => ?_, ?_, ?_, ?_⟩
  · rw [ht, dirGet_publish (by rw [hdirectory]; exact hdir), hwindow, hrecord, hcfg, State.dirEntry, hcfg, hdirectory, hclock,
      hentry]
    rfl
  · rw [ht, publish_fills, hentry, hfills, Vector.set_set]
    rfl
  · rw [hpublished]
    exact hinFlight
  · rw [ht, sameRequests_publish, hlanes]
  · rw [ht, publish_counters, hwindow]
    simp only [counted]
    rw [hframe]
  · have hreported := publish_reported f y
    rw [hwindow, hrecord, hentry, ← ht] at hreported
    exact reported_of_state hreported (by rw [hframe]) (by rw [hframe]) hclock
  · have hkept : t.inFlight = y.inFlight ∧ t.responseGrant = y.responseGrant := by
      rw [hpublished]
      exact ⟨rfl, rfl⟩
    rw [hkept.1, hkept.2]
    rw [hframe] at hpublished
    exact hpublished

end

end Sys2Proof.Machine
end

section
/-! SUPPORT. Fills that open ACTIVE (R58, R74, R81, R95, R115), and the grants of their writes: statements O16 and O17. -/

namespace Sys2Proof.Machine

open Sys2Proof.Statements

section
variable {s t u x : State} {m : Tag} {q : Request} {g : Segment} {sp : GuardSpan} {xs : List WriteWord} {w : WindowNo}
  {r : Nat} {i : HoldNo} {f : FillNo} {target : Option Bank} {ys : List HoldNo}

/-! ### Surrender, yields and allocation -/

/-- The state in which the first write of a fill that opens ACTIVE is issued. -/
def openingState (m : Tag) (w : WindowNo) (r : Nat) (f : FillNo) (target : Option Bank) (ys : List HoldNo) (s : State) : State :=
  reofferWhen (Stall.isParkRoom w r)
    (allocateFill f .active m w r target (breakAll .yielded (freeOrder s.freeCount ys) (surrender m w r s).drawn))

theorem issueFillOpening_eq (m : Tag) (q : Request) (g : Segment) (sp : GuardSpan) (f : FillNo) (target : Option Bank)
    (ys : List HoldNo) (s : State) : issueFillOpening m q g sp f target ys s =
      issueFillWrite m q g sp f (openingState m sp.window sp.record f target ys s) := rfl

theorem openingState_writes (hx : x = openingState m w r f target ys s)
    (hnone : openFill s w r = none) (hopen : ∀ i ∈ ys, (givenUp s m w r)[i].isOpenOn w r = true) :
    x.fills = s.fills.set f (activeFill s target (openedFill s m w r f 0))
      ∧ SameRequests s x
      ∧ x = { s with
          lanes := x.lanes, holds := x.holds, slots := x.slots, fills := x.fills, counters := x.counters
          events := x.events, alertLow := x.alertLow, freeCount := x.freeCount } := by
  let d := (surrender m w r s).drawn
  let b := breakAll .yielded (freeOrder s.freeCount ys) d
  obtain ⟨hfills, hpark⟩ : (surrender m w r s).fills = s.fills ∧ (surrender m w r s).park = s.park := surrender_of_none hnone
  have hholds : d.holds = givenUp s m w r := surrender_holds m w r s
  have hquiet (i : HoldNo) (hi : i ∈ freeOrder s.freeCount ys) : openFill d d.holds[i].window d.holds[i].record = none := by
    obtain ⟨-, hw, hr⟩ := (isOpenOn_iff _ _ _).1 (hopen i (mem_freeOrder.1 hi))
    rw [← hholds] at hw hr
    rw [hw, hr, openFill]
    exact (congrArg (tableFind (Fill.isOpenOn w r)) hfills).trans hnone
  obtain ⟨hbfills, hbpark⟩ : b.fills = d.fills ∧ b.park = d.park := breakAll_of_none hquiet
  have hb : b = { d with
      lanes := b.lanes, holds := b.holds, fills := b.fills, park := b.park, slots := b.slots, events := b.events
      counters := b.counters, alertLow := b.alertLow } := breakAll_writes .yielded (freeOrder s.freeCount ys) d
  have hd : d = { s with
      lanes := d.lanes, holds := d.holds, fills := d.fills, park := d.park, slots := d.slots
      freeCount := d.freeCount } := by
    simp only [d, State.drawn]
    rw [surrender_writes]
  have hcfg : b.cfg = s.cfg := by rw [hb, hd]; rfl
  have hframe : x = { b with lanes := x.lanes, fills := x.fills } := by rw [hx]; rfl
  refine ⟨?_, ?_, ?_⟩
  · rw [hx]
    change b.fills.set f
      { state := .active, owner := m, window := w, record := r, generation := b.fills[f].generation + 1,
        target := target, coverage := 0, parked := 0, countdown := (b.cfg w).fillLimit, writeFaulted := false,
        abandoned := false } = _
    rw [hbfills, hcfg, show d.fills = s.fills from hfills]
    rfl
  · have hbroken : SameRequests s b :=
      (sameRequests_surrender m w r s).trans (.trans (t := d) (.of_lanes rfl) (sameRequests_breakAll _ _ d))
    rw [hx]
    exact hbroken.trans (.trans (.of_lanes rfl) (sameRequests_reofferWhen _ _))
  · have hsame : x.park = s.park := by
      rw [hframe]
      exact hbpark.trans hpark
    have hkept : x.resetLow = s.resetLow ∧ x.timeBase = s.timeBase := by
      rw [hframe, hb, hd]
      exact ⟨rfl, rfl⟩
    have hwhole : x = { s with
        lanes := x.lanes, holds := b.holds, slots := b.slots, fills := x.fills, counters := b.counters, events := b.events
        alertLow := b.alertLow, freeCount := d.freeCount, park := b.park } := by
      rw [hb, hd] at hframe
      exact hframe
    have hfields : x.holds = b.holds ∧ x.slots = b.slots ∧ x.counters = b.counters ∧ x.events = b.events
        ∧ x.alertLow = b.alertLow ∧ x.freeCount = d.freeCount ∧ x.park = b.park := by
      rw [hwhole]
      exact ⟨rfl, rfl, rfl, rfl, rfl, rfl, rfl⟩
    obtain ⟨h1, h2, h3, h4, h5, h6, h7⟩ := hfields
    rw [h1, h2, h3, h4, h5, h6]
    rw [← h7, hsame] at hwhole
    exact hwhole

/-- What the surrender and the yields leave of holds, slots, counters and reports. -/
theorem openingState_holds (hx : x = openingState m w r f target ys s) (hnodup : ys.Nodup)
    (hopen : ∀ i ∈ ys, (givenUp s m w r)[i].isOpenOn w r = true) :
    (∀ i : HoldNo, x.holds[i] = if i ∈ ys then brokenHold s .yielded (givenUp s m w r)[i] else (givenUp s m w r)[i])
      ∧ SlotsFollow s x
      ∧ x.counters = (countTimes .holdsBroken w ys.length s).counters
      ∧ ReportedAll ((freeOrder s.freeCount ys).map fun i => .of .holdYielded w r (givenUp s m w r)[i].master) s x := by
  let d := (surrender m w r s).drawn
  let order := freeOrder s.freeCount ys
  let b := breakAll .yielded order d
  have hholds : d.holds = givenUp s m w r := surrender_holds m w r s
  have hd : d = { s with
      lanes := d.lanes, holds := d.holds, fills := d.fills, park := d.park, slots := d.slots
      freeCount := d.freeCount } := by
    simp only [d, State.drawn]
    rw [surrender_writes]
  have hspec (i : HoldNo) (hi : i ∈ order) : d.holds[i].state = .opened ∧ d.holds[i].window = w ∧ d.holds[i].record = r := by
    rw [hholds]
    exact (isOpenOn_iff _ _ _).1 (hopen i (mem_freeOrder.1 hi))
  have hfields : x.holds = b.holds ∧ x.slots = b.slots ∧ x.counters = b.counters ∧ x.events = b.events
      ∧ x.alertLow = b.alertLow := by
    rw [hx]
    exact ⟨rfl, rfl, rfl, rfl, rfl⟩
  obtain ⟨hxholds, hxslots, hxcounters, hxevents, hxlow⟩ := hfields
  refine ⟨fun i => ?_, ?_, ?_, ?_⟩
  · rw [hxholds, breakAll_hold, hholds]
    by_cases hi : i ∈ ys
    · obtain ⟨hstate, -, -⟩ := (isOpenOn_iff _ _ _).1 (hopen i hi)
      rw [if_pos (mem_freeOrder.2 hi), if_pos hi, brokenBy_opened hstate, hd]
      rfl
    · rw [if_neg fun h => hi (mem_freeOrder.1 h), if_neg hi]
  · have hstep : SlotStep s b :=
      ((slotStep_surrender m w r s).trans (.of_eq (t := d) rfl rfl)).trans (slotStep_breakAll .yielded order d)
    obtain ⟨hfollow, -⟩ := hstep
    unfold SlotsFollow
    simp only [hxholds, hxslots]
    exact hfollow
  · have hforce (i : HoldNo) (hi : i ∈ order) : InForce d i ∧ d.holds[i].window = w := by
      obtain ⟨hstate, hw, -⟩ := hspec i hi
      exact ⟨.inl hstate, hw⟩
    have hcounted : b.counters = (countTimes .holdsBroken w order.length d).counters :=
      breakAll_counters (freeOrder_nodup hnodup) hforce
    rw [hxcounters, hcounted, (freeOrder_perm s.freeCount ys).length_eq]
    exact countTimes_counters_congr _ _ _ (by rw [hd])
  · have hreported := breakAll_yielded_reports (s := d) (freeOrder_nodup (seed := s.freeCount) hnodup) fun i hi => (hspec i hi).1
    have hnames : (order.map fun i => Report.of .holdYielded d.holds[i].window d.holds[i].record d.holds[i].master)
        = order.map fun i => .of .holdYielded w r (givenUp s m w r)[i].master :=
      List.map_congr_left fun i hi => by
        obtain ⟨-, hw, hr⟩ := hspec i hi
        rw [hw, hr, hholds]
    rw [hnames] at hreported
    exact reportedAll_congr (reportedAll_of_state hreported (by rw [hd]) (by rw [hd]) (by rw [hd])) hxevents hxlow

theorem yielding_nodup : (yielding s w r m target).Nodup := (List.nodup_finRange 32).filter _

theorem segmentSpan_writesGuard (h : WritesGuard s q g sp xs) : segmentSpan { s with lastIssueLane := m } q g = sp := by
  obtain ⟨-, -, hsp, -⟩ := h
  exact hsp.symm

/-- A write that continues an ACTIVE fill is issued (R76). -/
theorem exec_fillWrite (hgranted : Granted s m q g) (hwrites : WritesGuard s q g sp xs)
    (hmay : mayProduce (s.cfg sp.window).producer m = true) (hopen : openFill s sp.window sp.record = some f)
    (howner : s.fills[f].owner = m) (hactive : s.fills[f].state = .active) (habandoned : s.fills[f].abandoned = false)
    (huncovered : covers (s.cfg sp.window).guardLen.toNat s.fills[f].coverage = false) :
    exec .laneSegmentGrant s = .next (issueFillWrite m q g sp f { s with lastIssueLane := m }) := by
  have hdecide : decideSegment s m q g = .issue (.fillWrite f) := by
    rw [decideSegment_writesGuard hwrites, decideWrite_own hmay hopen howner habandoned huncovered, if_neg (by rw [hactive]; decide)]
  rw [exec_granted_issue hgranted hdecide, issueSegment, segmentSpan_writesGuard hwrites]

/-- A write that opens an ACTIVE fill is issued after the surrender and the yields (R74). -/
theorem exec_fillOpening (hgranted : Granted s m q g) (hwrites : WritesGuard s q g sp xs)
    (hmay : mayProduce (s.cfg sp.window).producer m = true) (hlive : Live s sp.window)
    (hnone : openFill s sp.window sp.record = none) (hfree : freeFill s = some f)
    (hcopy : NoUnissuedCopy s sp.window sp.record)
    (hopens : OpensActive (afterSurrender s m sp.window sp.record) sp.window sp.record m target) :
    exec .laneSegmentGrant s = .next (issueFillWrite m q g sp f (openingState m sp.window sp.record f target
      (yielding (afterSurrender s m sp.window sp.record) sp.window sp.record m target) { s with lastIssueLane := m })) := by
  have hdecide := decideSegment_writesGuard (m := m) hwrites
  rw [decideWrite_opening hmay hnone (isDraining_of_live hlive) hcopy hfree, decideFillOpening_opens hopens] at hdecide
  rw [exec_granted_issue hgranted hdecide, issueSegment, segmentSpan_writesGuard hwrites, issueFillOpening_eq]

/-- Settles O16: the write is issued, after the surrender and the yields where it opens its fill. -/
theorem grantContinuesFill : Obligations.GrantContinuesFill := by
  intro s m q g sp xs f hgranted hwrites hmay hlive
  have hxs : xs = requestWords q g := by
    obtain ⟨-, -, -, hxs⟩ := hwrites
    exact hxs
  let v : State := { s with lastIssueLane := m }
  refine ⟨fun hopen howner hactive habandoned huncovered hstill => ?continues,
    fun target hnone hfree hcopy hopens hstill => ?opens⟩
  case continues =>
    obtain ⟨-, hw, -⟩ := openFill_spec hopen
    have hnext := exec_fillWrite hgranted hwrites hmay hopen howner hactive habandoned huncovered
    rw [issueFillWrite_uncovered (s := v) hlive hxs hw habandoned hstill] at hnext
    obtain ⟨hinFlight, hlanes, hfills, hframe⟩ := writeIssued_spec (s := v) (m := m) (f := f) (sp := sp) hxs rfl
    exact ⟨_, ⟨hnext, hinFlight⟩, hlanes.trans (takeWords_lanes_congr m _ rfl), hfills, hframe⟩
  case opens =>
    let ys := yielding (afterSurrender s m sp.window sp.record) sp.window sp.record m target
    have hys (i : HoldNo) (hi : i ∈ ys) : (givenUp s m sp.window sp.record)[i].isOpenOn sp.window sp.record = true :=
      (mem_yielding.1 hi).1
    have hnext := exec_fillOpening hgranted hwrites hmay hlive hnone hfree hcopy hopens
    obtain ⟨hxfills, hxreqs, hx⟩ := openingState_writes (s := v) (m := m) (f := f) (target := target) rfl hnone hys
    obtain ⟨hholds, hslots, hcounters, hreports⟩ :=
      openingState_holds (s := v) (m := m) (f := f) (target := target) rfl yielding_nodup hys
    generalize openingState m sp.window sp.record f target ys v = x at hnext hxfills hxreqs hx hholds hslots hcounters hreports
    have hentry : x.fills[f] = activeFill s target (openedFill s m sp.window sp.record f 0) := by
      rw [hxfills]
      exact getElem_set_same _ _ _
    have hcfg : x.cfg = s.cfg := by rw [hx]; rfl
    have hlive' : Live x sp.window := by rw [Live, hx]; exact hlive
    have huncovered : covers (x.cfg sp.window).guardLen.toNat (x.fills[f].coverage ||| fullWrites sp.offset xs) = false := by
      rw [hcfg, hentry]
      simp only [activeFill, openedFill, zero_or_coverage]
      exact hstill
    rw [issueFillWrite_uncovered hlive' hxs (by rw [hentry]; rfl) (by rw [hentry]; rfl) huncovered] at hnext
    obtain ⟨hinFlight, hlanes, hfills, hframe⟩ := writeIssued_spec (s := x) (m := m) (f := f) (sp := sp) hxs rfl
    generalize writeIssued m q g sp f x = y at hnext hinFlight hlanes hfills hframe
    have htables : y.holds = x.holds ∧ y.slots = x.slots ∧ y.counters = x.counters ∧ y.events = x.events
        ∧ y.alertLow = x.alertLow ∧ y.freeCount = x.freeCount := by
      rw [hframe]
      exact ⟨rfl, rfl, rfl, rfl, rfl, rfl⟩
    obtain ⟨kholds, kslots, kcounters, kevents, klow, kfree⟩ := htables
    refine ⟨_, ⟨hnext, ?_⟩, fun n => ?_, ?_, fun i => ?_, ?_, ?_, ⟨freeOrder s.freeCount ys, freeOrder_perm _ _, ?_⟩, ?_⟩
    · rw [hinFlight, hentry, hcfg, hx]
      rfl
    · rw [hlanes]
      exact takeWords_reqs_congr (s := s) hxreqs m _ n
    · rw [hfills, hxfills, Vector.set_set, coveredFill, hentry]
      simp only [activeFill, openedFill, zero_or_coverage]
      rfl
    · rw [kholds]
      exact hholds i
    · unfold SlotsFollow
      simp only [kholds, kslots]
      exact hslots
    · rw [kcounters, hcounters]
      exact countTimes_counters_congr _ _ _ rfl
    · exact reportedAll_congr (reportedAll_of_state hreports rfl rfl rfl) kevents klow
    · rw [kholds, kslots, kcounters, kevents, klow, kfree]
      rw [hx] at hframe
      exact hframe

/-- Settles O17: the write that completes its fill publishes it, whether it continues the fill or opens it. -/
theorem completingWritePublishes : Obligations.CompletingWritePublishes := by
  intro s m q g sp xs f hgranted hwrites hmay hlive hdir
  have hxs : xs = requestWords q g := by
    obtain ⟨-, -, -, hxs⟩ := hwrites
    exact hxs
  let v : State := { s with lastIssueLane := m }
  refine ⟨fun hopen howner hactive habandoned hparked huncovered hcovered => ?continues,
    fun target hnone hfree hcopy hopens hcovered => ?opens⟩
  case continues =>
    obtain ⟨-, hw, hr⟩ := openFill_spec hopen
    have hnext := exec_fillWrite hgranted hwrites hmay hopen howner hactive habandoned huncovered
    rw [issueFillWrite_covered (s := v) hlive hxs hactive hw habandoned hparked hcovered] at hnext
    obtain ⟨hdirectory, hfills, hinFlight, hreqs, hcounters, hreported, hframe⟩ :=
      publish_writeIssued (s := v) (m := m) (f := f) (sp := sp) hxs hdir hw hr rfl
    have hreported' : Reported (.of .fillPublished sp.window sp.record s.fills[f].owner) s
        (publish f (writeIssued m q g sp f v)) := reported_of_state hreported rfl rfl rfl
    rw [howner] at hreported'
    refine ⟨_, ⟨hnext, (hdirectory _).trans (if_pos rfl), fun j hj => (hdirectory j).trans (if_neg hj.symm), hfills, hinFlight,
      fun n => ?_⟩, hcounters, hreported', hframe⟩
    rw [hreqs, takeWords_reqs_congr (s := s) (u := v) (.of_lanes rfl)]
  case opens =>
    let ys := yielding (afterSurrender s m sp.window sp.record) sp.window sp.record m target
    have hys (i : HoldNo) (hi : i ∈ ys) : (givenUp s m sp.window sp.record)[i].isOpenOn sp.window sp.record = true :=
      (mem_yielding.1 hi).1
    have hnext := exec_fillOpening hgranted hwrites hmay hlive hnone hfree hcopy hopens
    obtain ⟨hxfills, hxreqs, hx⟩ := openingState_writes (s := v) (m := m) (f := f) (target := target) rfl hnone hys
    obtain ⟨hholds, hslots, hcounters, hreports⟩ :=
      openingState_holds (s := v) (m := m) (f := f) (target := target) rfl yielding_nodup hys
    generalize openingState m sp.window sp.record f target ys v = x at hnext hxfills hxreqs hx hholds hslots hcounters hreports
    have hentry : x.fills[f] = activeFill s target (openedFill s m sp.window sp.record f 0) := by
      rw [hxfills]
      exact getElem_set_same _ _ _
    have hcfg : x.cfg = s.cfg := by rw [hx]; rfl
    have hlive' : Live x sp.window := by rw [Live, hx]; exact hlive
    have hxdirectory : x.directory = s.directory ∧ x.timeBase = s.timeBase := by
      rw [hx]
      exact ⟨rfl, rfl⟩
    obtain ⟨kdirectory, kclock⟩ := hxdirectory
    have hcovered' : covers (x.cfg sp.window).guardLen.toNat (x.fills[f].coverage ||| fullWrites sp.offset xs) = true := by
      rw [hcfg, hentry]
      simp only [activeFill, openedFill, zero_or_coverage]
      exact hcovered
    rw [issueFillWrite_covered hlive' hxs (by rw [hentry]; rfl) (by rw [hentry]; rfl) (by rw [hentry]; rfl)
      (by rw [hentry]; rfl) hcovered'] at hnext
    obtain ⟨hdirectory, hfills, hinFlight, hreqs, hpublished, hreported, hframe⟩ :=
      publish_writeIssued (s := x) (m := m) (f := f) (sp := sp) hxs (by rw [kdirectory]; exact hdir) (by rw [hentry]; rfl)
        (by rw [hentry]; rfl) rfl
    generalize publish f (writeIssued m q g sp f x) = y at hnext hdirectory hfills hinFlight hreqs hpublished hreported hframe
    have htables : y.holds = x.holds ∧ y.slots = x.slots ∧ y.freeCount = x.freeCount := by
      rw [hframe]
      exact ⟨rfl, rfl, rfl⟩
    obtain ⟨kholds, kslots, kfree⟩ := htables
    have hentries (j : Nat) : dirGet y.directory j = if (s.cfg sp.window).dirIndex sp.record = j then
        publishedEntry s.timeBase.value (activeFill s target (openedFill s m sp.window sp.record f 0))
          (s.dirEntry sp.window sp.record) else dirGet s.directory j := by
      rw [hdirectory, State.dirEntry, hcfg, kdirectory, kclock, hentry, State.dirEntry]
    refine ⟨y, ⟨hnext, ?_, fun j hj => ?_, ?_, ?_, fun n => ?_⟩, fun i => ?_, ?_, ?_,
      ⟨freeOrder s.freeCount ys, freeOrder_perm _ _, ?_⟩, ?_⟩
    · rw [hentries, if_pos rfl]
      rfl
    · rw [hentries, if_neg hj.symm]
    · rw [hfills, hentry, hxfills, Vector.set_set]
      rfl
    · rw [hinFlight, hentry, hcfg, hx]
      rfl
    · rw [hreqs]
      exact takeWords_reqs_congr (s := s) hxreqs m _ n
    · rw [kholds]
      exact hholds i
    · unfold SlotsFollow
      simp only [kholds, kslots]
      exact hslots
    · have hyields : x.counters = (countTimes .holdsBroken sp.window ys.length s).counters :=
        hcounters.trans (countTimes_counters_congr _ _ _ rfl)
      rw [hpublished]
      simp only [count, counted, hyields]
      rfl
    · rw [hentry] at hreported
      have hyields := reportedAll_of_state (s := s) hreports rfl rfl rfl
      exact reportedAll_append hyields kclock hreported
    · rw [kholds, kslots, kfree]
      rw [hx] at hframe
      exact hframe

end

end Sys2Proof.Machine
end

section
/-! SUPPORT. Holds broken one after another, and the WAITING fills that become ACTIVE on the way (R66, R79, R94, R114):
statement O49. -/

namespace Sys2Proof.Machine

open Sys2Proof.Statements

section
variable {s t u : State} {w : WindowNo} {r : Nat} {m : Tag} {i : HoldNo} {f : FillNo} {is js : List HoldNo}
  {reason : BreakReason} {target : Option Bank}

/-! ### Fewer OPEN holds -/

/-- The windows and the directory stand, and the holds that are OPEN in t are as in s. -/
def Narrows (s t : State) : Prop :=
  t.windows = s.windows ∧ t.directory = s.directory ∧ ∀ i : HoldNo, t.holds[i].state = .opened → t.holds[i] = s.holds[i]

theorem Narrows.trans (h : Narrows s t) (k : Narrows t u) : Narrows s u := by
  obtain ⟨hwindows, hdirectory, hholds⟩ := h
  obtain ⟨kwindows, kdirectory, kholds⟩ := k
  refine ⟨kwindows.trans hwindows, kdirectory.trans hdirectory, fun i hi => ?_⟩
  have hsame := kholds i hi
  exact hsame.trans (hholds i (by rw [← hsame]; exact hi))

theorem Narrows.cfg (h : Narrows s t) : t.cfg = s.cfg := by
  obtain ⟨hwindows, -⟩ := h
  funext w
  rw [State.cfg, State.cfg, hwindows]

theorem Narrows.openOn (h : Narrows s t) (hi : OpenOn t w r i) : OpenOn s w r i ∧ t.holds[i] = s.holds[i] := by
  obtain ⟨-, -, hholds⟩ := h
  obtain ⟨hopen, hw, hr⟩ := hi
  have hsame := hholds i hopen
  rw [hsame] at hopen hw hr
  exact ⟨⟨hopen, hw, hr⟩, hsame⟩

theorem Narrows.spare (h : Narrows s t) {k : Bank} (hk : Spare s w r k) : Spare t w r k := by
  obtain ⟨hused, hactive, hpins⟩ := hk
  refine ⟨by rw [h.cfg]; exact hused, ?_, fun i hi => ?_⟩
  · obtain ⟨hwindows, hdirectory, -⟩ := h
    rw [State.dirEntry, State.cfg, hwindows, hdirectory]
    exact hactive
  · obtain ⟨hopen, hsame⟩ := h.openOn hi
    rw [hsame]
    exact hpins i hopen

theorem brokenBy_notOpen (s : State) (reason : BreakReason) (h : Hold) : (brokenBy s reason h).state ≠ .opened := by
  cases hstate : h.state with
  | opened => rw [brokenBy_opened hstate]; nofun
  | copying => rw [brokenBy_copying hstate]; nofun
  | broken => simp only [brokenBy, hstate]; nofun
  | free => simp only [brokenBy, hstate]; nofun

theorem narrows_breakAll (reason : BreakReason) (is : List HoldNo) (s : State) : Narrows s (breakAll reason is s) := by
  refine ⟨by rw [breakAll_writes], by rw [breakAll_writes], fun i hi => ?_⟩
  rw [breakAll_hold] at hi ⊢
  split at hi
  · exact absurd hi (brokenBy_notOpen s reason _)
  next hnot => rw [if_neg hnot]

theorem narrows_breakHold (reason : BreakReason) (i : HoldNo) (s : State) : Narrows s (breakHold reason i s) :=
  narrows_breakAll reason [i] s

/-! ### Where a fill became ACTIVE -/

/-- The place of a fill that became ACTIVE, against fewer holds than it was tested with: in SINGLE no other master's hold is
OPEN, in BANKED the target bank is SPARE (R94, R114). -/
def Placed (s : State) (w : WindowNo) (r : Nat) (m : Tag) (target : Option Bank) : Prop :=
  ((s.cfg w).mode = .single → ∀ i : HoldNo, OpenOn s w r i → s.holds[i].master = m)
    ∧ ((s.cfg w).mode ≠ .banked → target = none)
    ∧ ((s.cfg w).mode = .banked → ∃ k, target = some k ∧ Spare s w r k)

theorem placed_of_mayBeActive (h : MayBeActive s w r m target) : Placed s w r m target := by
  unfold MayBeActive at h
  unfold Placed
  cases hmode : (s.cfg w).mode with
  | single =>
    simp only [hmode] at h
    obtain ⟨hnone, hown⟩ := h
    exact ⟨fun _ => hown, fun _ => hnone, nofun⟩
  | banked =>
    simp only [hmode] at h
    obtain ⟨k, hk, hspare, -⟩ := h
    exact ⟨nofun, fun hne => absurd rfl hne, fun _ => ⟨k, hk, hspare⟩⟩
  | snap =>
    simp only [hmode] at h
    exact ⟨nofun, fun _ => h, nofun⟩

theorem Placed.narrow (h : Placed s w r m target) (hn : Narrows s t) : Placed t w r m target := by
  obtain ⟨hsingle, hface, hbanked⟩ := h
  unfold Placed
  rw [hn.cfg]
  refine ⟨fun hmode i hi => ?_, hface, fun hmode => ?_⟩
  · obtain ⟨hopen, hsame⟩ := hn.openOn hi
    rw [hsame]
    exact hsingle hmode i hopen
  · obtain ⟨k, hk, hspare⟩ := hbanked hmode
    exact ⟨k, hk, hn.spare hspare⟩

/-! ### What breaks do to fills and parked words -/

/-- A fill that breaks make ACTIVE: it was WAITING, a hold listed was OPEN on its record, and it is placed. -/
def Activated (is : List HoldNo) (s t : State) (f : FillNo) : Prop :=
  s.fills[f].state = .waiting ∧ (∃ i ∈ is, OpenOn s s.fills[f].window s.fills[f].record i)
    ∧ ∃ target, Placed t s.fills[f].window s.fills[f].record s.fills[f].owner target
      ∧ t.fills[f] = activeFill s target s.fills[f]

/-- A parked word as the fills of s become those of t: RELEASED where its fill has become ACTIVE (R101). -/
def parkAfter (s t : State) (e : ParkEntry) : ParkEntry :=
  match e.fill with
  | none => e
  | some ref =>
    if s.fills[ref.index].state = .waiting ∧ t.fills[ref.index].state = .active then
      releasedBy s ⟨ref.index, s.fills[ref.index].generation⟩ t.fills[ref.index].target e
    else e

/-- From s to t fills and parked words change only by activations on the records of the holds listed. -/
def FillsFollow (is : List HoldNo) (s t : State) : Prop :=
  (∀ f, t.fills[f] = s.fills[f] ∨ Activated is s t f) ∧ t.park = s.park.map (parkAfter s t)

theorem parkAfter_of_none {e : ParkEntry} (h : e.fill = none) : parkAfter s t e = e := by simp only [parkAfter, h]

theorem parkAfter_of_stays {e : ParkEntry} {ref : FillRef} (h : e.fill = some ref)
    (hstays : t.fills[ref.index] = s.fills[ref.index]) : parkAfter s t e = e := by
  simp only [parkAfter, h, hstays]
  rw [if_neg]
  rintro ⟨hwaits, hactive⟩
  rw [hwaits] at hactive
  cases hactive

theorem parkAfter_of_active {e : ParkEntry} {ref : FillRef} (h : e.fill = some ref)
    (hwaits : s.fills[ref.index].state = .waiting) (hactive : t.fills[ref.index].state = .active) :
    parkAfter s t e = releasedBy s ⟨ref.index, s.fills[ref.index].generation⟩ t.fills[ref.index].target e := by
  simp only [parkAfter, h]
  rw [if_pos ⟨hwaits, hactive⟩]

theorem releasedBy_fill (s : State) (ref : FillRef) (target : Option Bank) (e : ParkEntry) :
    (releasedBy s ref target e).fill = e.fill := by
  unfold releasedBy
  split <;> rfl

theorem parkAfter_fill (s t : State) (e : ParkEntry) : (parkAfter s t e).fill = e.fill := by
  cases h : e.fill with
  | none => rw [parkAfter_of_none h, h]
  | some ref =>
    simp only [parkAfter, h]
    split
    · rw [releasedBy_fill, h]
    · exact h

/-- Where the fills stand, so do the parked words. -/
theorem map_parkAfter_of_fills (h : t.fills = s.fills) : s.park.map (parkAfter s t) = s.park := by
  refine (List.map_congr_left fun e _ => ?_).trans (List.map_id _)
  cases hfill : e.fill with
  | none => exact parkAfter_of_none hfill
  | some ref => exact parkAfter_of_stays hfill (by rw [h])

theorem fillsFollow_of_eq (hfills : t.fills = s.fills) (hpark : t.park = s.park) : FillsFollow is s t :=
  ⟨fun f => .inl (by rw [hfills]), by rw [map_parkAfter_of_fills hfills, hpark]⟩

theorem activated_active (h : Activated is s t f) : t.fills[f].state = .active := by
  obtain ⟨-, -, target, -, hfill⟩ := h
  rw [hfill]
  rfl

/-- The releases of one activation are those of the fills' change. -/
theorem map_releasedBy_eq (hwaits : s.fills[f].state = .waiting)
    (hfills : t.fills = s.fills.set f (activeFill s target s.fills[f])) :
    s.park.map (releasedBy s ⟨f, s.fills[f].generation⟩ target) = s.park.map (parkAfter s t) := by
  refine List.map_congr_left fun e _ => ?_
  cases hfill : e.fill with
  | none =>
    rw [parkAfter_of_none hfill, releasedBy, hfill]
    simp
  | some ref =>
    by_cases hindex : f = ref.index
    · subst hindex
      have hentry : t.fills[ref.index] = activeFill s target s.fills[ref.index] := by
        rw [hfills]
        exact getElem_set_same _ _ _
      rw [parkAfter_of_active hfill hwaits (by rw [hentry]; rfl), hentry]
      rfl
    · have hstays : t.fills[ref.index] = s.fills[ref.index] := by
        rw [hfills]
        exact getElem_set_other _ _ _ _ hindex
      rw [parkAfter_of_stays hfill hstays, releasedBy, if_neg]
      rintro ⟨hsome, -⟩
      rw [hfill] at hsome
      exact hindex (congrArg FillRef.index (Option.some.inj hsome)).symm

/-- Releases follow releases: a fill that has become ACTIVE stays as it is. -/
theorem parkAfter_parkAfter (hcfg : t.cfg = s.cfg)
    (h : ∀ f : FillNo, t.fills[f] = s.fills[f] ∨ (s.fills[f].state = .waiting ∧ t.fills[f].state = .active))
    (k : ∀ f : FillNo, u.fills[f] = t.fills[f] ∨ t.fills[f].state = .waiting) (e : ParkEntry) :
    parkAfter t u (parkAfter s t e) = parkAfter s u e := by
  have hnames := parkAfter_fill s t e
  cases hfill : e.fill with
  | none =>
    rw [hfill] at hnames
    rw [parkAfter_of_none hnames, parkAfter_of_none hfill, parkAfter_of_none hfill]
  | some ref =>
    rw [hfill] at hnames
    rcases h ref.index with hsame | ⟨hwaits, hactive⟩
    · rw [parkAfter_of_stays hfill hsame]
      simp only [parkAfter, hfill, hsame]
      unfold releasedBy
      rw [hcfg, hsame]
    · have hafter : u.fills[ref.index] = t.fills[ref.index] := by
        rcases k ref.index with hsame | hwaits'
        · exact hsame
        · rw [hactive] at hwaits'
          cases hwaits'
      rw [parkAfter_of_stays hnames hafter, parkAfter_of_active hfill hwaits hactive,
        parkAfter_of_active hfill hwaits (by rw [hafter]; exact hactive), hafter]

/-- One break: the record's WAITING fill is tested where the entry was OPEN. -/
theorem fillsFollow_breakHold (reason : BreakReason) (i : HoldNo) (s : State) : FillsFollow [i] s (breakHold reason i s) := by
  by_cases hopen : s.holds[i].state = .opened
  · obtain ⟨hactivates, hstands⟩ := fillTested_breakHold hopen reason
    by_cases h : ∃ f target, openFill s s.holds[i].window s.holds[i].record = some f ∧ s.fills[f].state = .waiting
        ∧ MayBeActive { s with holds := (breakHold reason i s).holds } s.holds[i].window s.holds[i].record s.fills[f].owner target
    · obtain ⟨f, target, hfound, hwaits, hplace⟩ := h
      obtain ⟨hfills, hpark⟩ := hactivates f target hfound hwaits hplace
      obtain ⟨-, hw, hr⟩ := openFill_spec hfound
      have hnarrow : Narrows { s with holds := (breakHold reason i s).holds } (breakHold reason i s) := by
        rw [breakHold_writes]
        exact ⟨rfl, rfl, fun _ _ => rfl⟩
      refine ⟨fun f' => ?_, hpark.trans (map_releasedBy_eq hwaits hfills)⟩
      by_cases hindex : f = f'
      · subst hindex
        refine .inr ⟨hwaits, ⟨i, .head _, hopen, hw.symm, hr.symm⟩, target, ?_, ?_⟩
        · rw [hw, hr]
          exact (placed_of_mayBeActive hplace).narrow hnarrow
        · rw [hfills]
          exact getElem_set_same _ _ _
      · rw [hfills]
        exact .inl (getElem_set_other _ _ _ _ hindex)
    · obtain ⟨hfills, hpark⟩ := hstands fun f hfound hwaits target hplace => h ⟨f, target, hfound, hwaits, hplace⟩
      exact fillsFollow_of_eq hfills hpark
  · have hkept : (breakHold reason i s).fills = s.fills ∧ (breakHold reason i s).park = s.park := by
      have hentry : (breakEntry reason i s).fills = s.fills ∧ (breakEntry reason i s).park = s.park := by
        rw [breakEntry_writes]
        exact ⟨rfl, rfl⟩
      rw [← hentry.1, ← hentry.2]
      change (afterBreak _ _).fills = _ ∧ (afterBreak _ _).park = _
      unfold afterBreak
      split
      next h => exact absurd h hopen
      all_goals exact ⟨rfl, rfl⟩
    exact fillsFollow_of_eq hkept.1 hkept.2

/-- Activations after activations. -/
theorem FillsFollow.trans (h : FillsFollow is s t) (hn : Narrows s t) (k : FillsFollow js t u) (kn : Narrows t u) :
    FillsFollow (is ++ js) s u := by
  obtain ⟨hfills, hpark⟩ := h
  obtain ⟨kfills, kpark⟩ := k
  have hstay (f : FillNo) (hf : Activated is s t f) : u.fills[f] = t.fills[f] := by
    rcases kfills f with hsame | ⟨hwaits, -⟩
    · exact hsame
    · rw [activated_active hf] at hwaits
      cases hwaits
  refine ⟨fun f => ?_, ?_⟩
  · rcases hfills f with hsame | hactive
    · rcases kfills f with ksame | ⟨hwaits, ⟨i, hi, hopen⟩, target, hplace, hfill⟩
      · exact .inl (ksame.trans hsame)
      · rw [hsame] at hwaits hopen hplace hfill
        refine .inr ⟨hwaits, ⟨i, List.mem_append_right _ hi, (hn.openOn hopen).1⟩, target, hplace, ?_⟩
        rw [hfill]
        simp only [activeFill, hn.cfg]
    · have hafter := hstay f hactive
      obtain ⟨hwaits, ⟨i, hi, hopen⟩, target, hplace, hfill⟩ := hactive
      exact .inr ⟨hwaits, ⟨i, List.mem_append_left _ hi, hopen⟩, target, hplace.narrow kn, hafter.trans hfill⟩
  · rw [kpark, hpark, List.map_map]
    refine List.map_congr_left fun e _ => parkAfter_parkAfter hn.cfg (fun f => ?_) (fun f => ?_) e
    · exact (hfills f).imp_right fun hactive => ⟨hactive.1, activated_active hactive⟩
    · exact (kfills f).imp_right fun hactive => hactive.1

theorem fillsFollow_breakAll (reason : BreakReason) (is : List HoldNo) (s : State) :
    FillsFollow is s (breakAll reason is s) := by
  induction is generalizing s with
  | nil => exact fillsFollow_of_eq rfl rfl
  | cons i is ih =>
    exact (fillsFollow_breakHold reason i s).trans (narrows_breakHold reason i s) (ih _) (narrows_breakAll reason is _)

end

end Sys2Proof.Machine
end

section
/-! SUPPORT. BREAK_HOLDS (R59, R62, R63, R66, R94): statement O49. -/

namespace Sys2Proof.Machine

open Sys2Proof.Statements

section
variable {s t u : State} {w : WindowNo} {r : Nat} {m : Tag} {i : HoldNo} {f : FillNo} {is js : List HoldNo}
  {reason : BreakReason} {target : Option Bank}

/-! ### When breaks make a fill ACTIVE -/

theorem tableFind_congr {α : Type} {n : Nat} {p : α → Bool} {v v' : Vector α n} (h : ∀ i : Fin n, p v'[i] = p v[i]) :
    tableFind p v' = tableFind p v := by
  refine Option.ext fun i => ?_
  simp only [tableFind_eq_some_iff, h]

/-- Activations open and close no fill. -/
theorem FillsFollow.openFill (h : FillsFollow is s t) (w : WindowNo) (r : Nat) :
    Machine.openFill t w r = Machine.openFill s w r := by
  obtain ⟨hfills, -⟩ := h
  refine tableFind_congr fun f => ?_
  rcases hfills f with hsame | ⟨hwaits, -, target, -, hfill⟩
  · rw [hsame]
  · rw [hfill]
    simp only [Fill.isOpenOn, activeFill, hwaits]
    rfl

/-- An OPEN hold that is not in force any more after breaks is one of those listed. -/
theorem mem_of_broken {j : HoldNo} (hopen : OpenOn s w r j) (hleft : ¬ OpenOn (breakAll reason is s) w r j) : j ∈ is := by
  by_contra hnot
  refine hleft ?_
  unfold OpenOn
  rw [breakAll_hold, if_neg hnot]
  exact hopen

/-- In SINGLE a WAITING fill becomes ACTIVE when breaks of its record's holds leave no other master's (R94). -/
theorem breakAll_activates (hmode : (s.cfg w).mode = .single) (hfound : Machine.openFill s w r = some f)
    (hwaits : s.fills[f].state = .waiting) (hleft : ∃ i ∈ is, OpenOn s w r i)
    (hown : ∀ i : HoldNo, OpenOn (breakAll reason is s) w r i → (breakAll reason is s).holds[i].master = s.fills[f].owner) :
    (breakAll reason is s).fills[f].state = .active := by
  induction is generalizing s with
  | nil =>
    obtain ⟨i, hi, -⟩ := hleft
    cases hi
  | cons i is ih =>
    let b := breakHold reason i s
    have hnarrow : Narrows s b := narrows_breakHold reason i s
    have hfollow : FillsFollow [i] s b := fillsFollow_breakHold reason i s
    obtain ⟨hrest, -⟩ := fillsFollow_breakAll reason is b
    rcases hfollow.1 f with hsame | hactive
    · have hgoes : ∃ j ∈ is, OpenOn b w r j := by
        by_cases hi : OpenOn s w r i
        · obtain ⟨hopen, hw, hr⟩ := hi
          obtain ⟨hactivates, -⟩ := fillTested_breakHold hopen reason
          rw [hw, hr] at hactivates
          have hheld : ¬ MayBeActive { s with holds := b.holds } w r s.fills[f].owner none := fun hplace => by
            obtain ⟨hfills, -⟩ := hactivates f none hfound hwaits hplace
            have hentry : b.fills[f] = activeFill { s with holds := b.holds } none s.fills[f] := by
              rw [hfills]
              exact getElem_set_same _ _ _
            rw [hsame] at hentry
            rw [hentry] at hwaits
            cases hwaits
          have hother : ∃ j : HoldNo, OpenOn b w r j ∧ b.holds[j].master ≠ s.fills[f].owner := by
            by_contra hall
            refine hheld ?_
            have hmode' : (State.cfg { s with holds := b.holds } w).mode = .single := hmode
            simp only [MayBeActive, hmode']
            exact ⟨trivial, fun j hj => by_contra fun hne => hall ⟨j, hj, hne⟩⟩
          obtain ⟨j, hj, hne⟩ := hother
          refine ⟨j, mem_of_broken (reason := reason) hj fun hstill => ?_, hj⟩
          obtain ⟨-, hkept⟩ := (narrows_breakAll reason is b).openOn hstill
          have howner := hown j hstill
          exact hne (hkept ▸ howner)
        · obtain ⟨j, hj, hopen⟩ := hleft
          rcases List.mem_cons.1 hj with rfl | hj
          · exact absurd hopen hi
          · refine ⟨j, hj, ?_⟩
            have hij : i ≠ j := fun h => hi (h ▸ hopen)
            unfold OpenOn
            rw [breakHold_hold, if_neg hij]
            exact hopen
      have hwaits' : b.fills[f].state = .waiting := by rw [hsame]; exact hwaits
      exact ih (s := b) (by rw [hnarrow.cfg]; exact hmode) ((hfollow.openFill w r).trans hfound) hwaits' hgoes
        fun j hj => (hown j hj).trans (by rw [hsame])
    · rcases hrest f with hsame | ⟨hwaits', -⟩
      · exact (congrArg Fill.state hsame).trans (activated_active hactive)
      · rw [activated_active hactive] at hwaits'
        cases hwaits'

/-! ### Breaks without a report (R59) -/

theorem breakEntry_silent (hsilent : ∀ (h : Hold) (s : State), breakReport reason h s = s) (i : HoldNo) (s : State) :
    (breakEntry reason i s).events = s.events ∧ (breakEntry reason i s).alertLow = s.alertLow := by
  unfold breakEntry
  dsimp only
  rw [hsilent]
  split
  · rw [releaseSlot_setHold]
    exact ⟨rfl, rfl⟩
  all_goals exact ⟨rfl, rfl⟩

theorem breakAll_silent (hsilent : ∀ (h : Hold) (s : State), breakReport reason h s = s) (is : List HoldNo) (s : State) :
    (breakAll reason is s).events = s.events ∧ (breakAll reason is s).alertLow = s.alertLow := by
  induction is generalizing s with
  | nil => exact ⟨rfl, rfl⟩
  | cons i is ih =>
    have hbroken : (breakHold reason i s).events = s.events ∧ (breakHold reason i s).alertLow = s.alertLow := by
      rw [breakHold, afterBreak_writes]
      exact breakEntry_silent hsilent i s
    exact ⟨(ih _).1.trans hbroken.1, (ih _).2.trans hbroken.2⟩

/-! ### The holds that BREAK_HOLDS names (R62) -/

theorem masterOf_of_le {x : Byte} (h : x.toNat ≤ 16) :
    ∃ c, masterOf x = some c ∧ ∀ m : Tag, c.covers m = true ↔ x = 0x10 ∨ m.val = x.toNat := by
  by_cases hlt : x.toNat < 16
  · refine ⟨.tag ⟨x.toNat, hlt⟩, dif_pos hlt, fun m => ?_⟩
    have hne : x ≠ 0x10 := fun heq => by
      rw [heq] at hlt
      exact absurd hlt (by decide)
    simp only [MasterChoice.covers, decide_eq_true_eq, hne, false_or, Fin.ext_iff]
  · have hall : x = 0x10 := BitVec.eq_of_toNat_eq (by
      have hsixteen : x.toNat = 16 := by omega
      rw [hsixteen]
      rfl)
    refine ⟨.all, ?_, fun m => ?_⟩
    · rw [masterOf, dif_neg hlt, if_pos hall]
    · simp only [MasterChoice.covers, hall, true_or]

theorem masterOf_of_gt {x : Byte} (h : 16 < x.toNat) : masterOf x = none := by
  rw [masterOf, dif_neg (by omega), if_neg]
  intro heq
  rw [heq] at h
  exact absurd h (by decide)

theorem mem_namedHolds {c : MasterChoice} :
    i ∈ namedHolds s w c ↔ (InForce s i ∧ s.holds[i].window = w) ∧ c.covers s.holds[i].master = true := by
  rw [namedHolds, List.mem_filter, mem_holdsInForce]

theorem namedHolds_nodup {c : MasterChoice} : (namedHolds s w c).Nodup := (tableAll_nodup _ _).filter _

/-- The command's answer and its state. -/
theorem runBreakHolds_of_live {c : MasterChoice} {x : Byte} (hc : masterOf x = some c) (hlive : Live s w) :
    runBreakHolds [.ofNat 8 w.val, x] s =
      (breakAll .management (freeOrder s.freeCount (namedHolds s w c)) s.drawn, .accepted [byte (namedHolds s w c).length]) := by
  have hdecoded : s.windows[w].decoded = true := by
    have hstate : s.windows[w].state = .live := hlive
    simp only [Window.decoded, hstate]
  have hwindows : (breakAll .management (freeOrder s.freeCount (namedHolds s w c)) s.drawn).windows = s.windows := by
    rw [breakAll_writes]
    rfl
  have harg : byteAt [.ofNat 8 w.val, x] 1 = x := rfl
  simp only [runBreakHolds, onWindow_ofNat, harg, hc, hdecoded, if_true, breakNamed, drainTest_of_live hwindows hlive]

/-- Settles O49: the checks in their order, and of the breaks what `breakAll` says of holds, slots, fills and parked words. -/
theorem breakHoldsOutcome : Obligations.BreakHoldsOutcome := by
  intro s w x b harrives
  refine ⟨fun hb => ?index, fun hx => ?argument, fun hx hoff => ?off, fun hx hlive => ?breaks⟩
  case index => exact commandFrame_rejected harrives rfl (onWindow_of_ge hb _ _ _)
  case argument =>
    refine commandFrame_rejected harrives rfl ?_
    have harg : byteAt [.ofNat 8 w.val, x] 1 = x := rfl
    simp only [runBreakHolds, onWindow_ofNat, harg, masterOf_of_gt hx]
  case off =>
    obtain ⟨c, hc, -⟩ := masterOf_of_le hx
    refine commandFrame_rejected harrives rfl ?_
    have harg : byteAt [.ofNat 8 w.val, x] 1 = x := rfl
    have hdecoded : (afterFrame 4 s).windows[w].decoded = false := (decoded_eq_false_iff _).2 hoff
    simp only [runBreakHolds, onWindow_ofNat, harg, hc, hdecoded]
    rfl
  case breaks =>
    obtain ⟨c, hc, hcovers⟩ := masterOf_of_le hx
    let a := afterFrame 4 s
    let named := namedHolds a w c
    let order := freeOrder a.freeCount named
    let y := breakAll .management order a.drawn
    let is := (List.finRange 32).filter fun i : HoldNo => decide (s.holds[i].window = w
      ∧ (x = 0x10 ∨ s.holds[i].master.val = x.toNat) ∧ (s.holds[i].state = .opened ∨ s.holds[i].state = .copying))
    have hmem (i : HoldNo) : i ∈ order ↔ s.holds[i].window = w ∧ (x = 0x10 ∨ s.holds[i].master.val = x.toNat)
        ∧ (s.holds[i].state = .opened ∨ s.holds[i].state = .copying) := by
      rw [mem_freeOrder, mem_namedHolds, hcovers]
      exact ⟨fun ⟨⟨hforce, hw⟩, hm⟩ => ⟨hw, hm, hforce⟩, fun ⟨hw, hm, hforce⟩ => ⟨⟨hforce, hw⟩, hm⟩⟩
    have hlength : named.length = is.length := by
      refine List.Perm.length_eq ((List.perm_ext_iff_of_nodup namedHolds_nodup ((List.nodup_finRange 32).filter _)).2 fun i => ?_)
      rw [← mem_freeOrder (seed := a.freeCount), hmem, List.mem_filter, decide_eq_true_eq]
      exact ⟨fun h => ⟨List.mem_finRange i, h⟩, fun ⟨_, h⟩ => h⟩
    have hnext : exec (.breakHolds (frameOf 0x21 [.ofNat 8 w.val, x])) s =
        .next (store (acceptedResponse 0x21 [.ofNat 8 is.length]) y) := by
      have hframe := commandFrame_of_arrives (code := 0x21) (run := runBreakHolds) harrives
        (show [BitVec.ofNat 8 w.val, x].length = 2 from rfl)
      have hran := runBreakHolds_of_live (s := a) (w := w) hc hlive
      rw [hran, hlength] at hframe
      exact hframe
    have hy := breakAll_writes .management order a.drawn
    obtain ⟨hevents, hlow⟩ := breakAll_silent (reason := .management) (fun _ _ => rfl) order a.drawn
    obtain ⟨hfills, hpark⟩ := fillsFollow_breakAll .management order a.drawn
    obtain ⟨hslots, -⟩ := slotStep_breakAll .management order a.drawn
    have hnarrow : Narrows a.drawn y := narrows_breakAll .management order a.drawn
    have hlink : y.link = a.link := by
      have h := congrArg State.link hy
      exact h
    have hcount : y.freeCount = a.drawn.freeCount := by
      have h := congrArg State.freeCount hy
      exact h
    have hforce (i : HoldNo) (hi : i ∈ order) : InForce a.drawn i ∧ a.drawn.holds[i].window = w := by
      obtain ⟨hw, -, hin⟩ := (hmem i).1 hi
      exact ⟨hin, hw⟩
    have hcounted : y.counters = (countTimes .holdsBroken w order.length a.drawn).counters :=
      breakAll_counters (freeOrder_nodup namedHolds_nodup) hforce
    have horder : order.length = is.length := (freeOrder_perm _ _).length_eq.trans hlength
    refine ⟨_, hnext, fun i => ?holds, hslots, ?counters, ?link, fun f => ?fills, fun f r hmode hfound hwaits hleft => ?single,
      ?park, fun m => ?requests, ?frame⟩
    case holds =>
      refine (breakAll_hold .management order i a.drawn).trans ?_
      by_cases hi : s.holds[i].window = w ∧ (x = 0x10 ∨ s.holds[i].master.val = x.toNat)
          ∧ (s.holds[i].state = .opened ∨ s.holds[i].state = .copying)
      · rw [if_pos ((hmem i).2 hi), if_pos hi]
        obtain ⟨hw, -, hopen | hcopying⟩ := hi
        · rw [if_pos hopen]
          exact brokenBy_opened hopen
        · rw [if_neg (by rw [hcopying]; decide), ← hw]
          exact brokenBy_copying hcopying
      · rw [if_neg fun h => hi ((hmem i).1 h), if_neg hi]
        rfl
    case counters =>
      rw [← horder]
      exact hcounted.trans (countTimes_counters_congr _ _ _ rfl)
    case link =>
      exact congrArg (fun l : Link => { l with holder := some (acceptedResponse 0x21 [.ofNat 8 is.length]) }) hlink
    case fills =>
      rcases hfills f with hsame | ⟨hwaits, ⟨i, hi, hopen⟩, target, ⟨-, hface, hbanked⟩, hfill⟩
      · exact .inl hsame
      · have hw : s.fills[f].window = w := hopen.2.1.symm.trans ((hmem i).1 hi).1
        have htarget : y.fills[f].target = target := congrArg Fill.target hfill
        rw [hnarrow.cfg] at hface hbanked
        have hmode : a.drawn.cfg a.drawn.fills[f].window = s.cfg w := by rw [← hw]; rfl
        rw [hmode] at hface hbanked
        refine .inr ⟨hwaits, ⟨i, (hmem i).1 hi, hopen⟩, ?_, fun hne => htarget.trans (hface hne), fun heq => ?_⟩
        · exact hfill.trans (by rw [← htarget]; rfl)
        · obtain ⟨k, hk, hspare⟩ := hbanked heq
          exact ⟨k, htarget.trans hk, hspare⟩
    case single =>
      refine ⟨fun hactive i hi => ?_, fun hown => ?_⟩
      · obtain ⟨-, hw, hr⟩ := openFill_spec hfound
        rcases hfills f with hsame | ⟨-, -, target, ⟨halone, -⟩, -⟩
        · have hstate : y.fills[f].state = .waiting := (congrArg Fill.state hsame).trans hwaits
          exact absurd (hactive.symm.trans hstate) (by decide)
        · rw [hnarrow.cfg] at halone
          obtain ⟨-, hkept⟩ := hnarrow.openOn hi
          have hmaster : y.holds[i].master = s.holds[i].master := congrArg Hold.master hkept
          have hi' : OpenOn y s.fills[f].window s.fills[f].record i := by rw [hw, hr]; exact hi
          have hmode' : (a.drawn.cfg a.drawn.fills[f].window).mode = .single := by
            rw [← hmode, ← hw]
            rfl
          exact hmaster.symm.trans (halone hmode' i hi')
      · obtain ⟨i, hi, hopen⟩ := hleft
        refine breakAll_activates (s := a.drawn) (reason := .management) hmode hfound hwaits ⟨i, (hmem i).2 hi, hopen⟩ fun j hj => ?_
        obtain ⟨-, hkept⟩ := hnarrow.openOn hj
        exact (congrArg Hold.master hkept).trans (hown j hj)
    case park => exact hpark
    case requests => exact sameRequests_breakAll .management order a.drawn m
    case frame =>
      have hkept : y.events = s.events ∧ y.alertLow = s.alertLow := ⟨hevents, hlow⟩
      obtain ⟨kevents, klow⟩ := hkept
      have hframe : y = { a.drawn with
          lanes := y.lanes, holds := y.holds, fills := y.fills, park := y.park, slots := y.slots, events := y.events
          counters := y.counters, alertLow := y.alertLow, link := y.link, freeCount := y.freeCount } := by
        rw [hlink, hcount]
        exact hy
      rw [kevents, klow] at hframe
      exact congrArg (store (acceptedResponse 0x21 [.ofNat 8 is.length])) hframe

end

end Sys2Proof.Machine
end

section
/-! SUPPORT. The steps of a forced drain, one after another (R175): the holds broken, the fills that become ACTIVE, the
abandonments, and the completion. -/

namespace Sys2Proof.Machine

open Sys2Proof.Statements

section
variable {s t u : State} {w : WindowNo} {r : Nat} {m : Tag} {i : HoldNo} {f : FillNo} {is : List HoldNo} {fs : List FillNo}

/-! ### Step 2: the holds -/

theorem breakEntry_windows (reason : BreakReason) (i : HoldNo) (s : State) : (breakEntry reason i s).windows = s.windows := by
  rw [breakEntry_writes]

/-- Of entries broken for a drain, those listed are broken and the others stand. -/
theorem breakForDrain_hold (is : List HoldNo) (j : HoldNo) (s : State) :
    (breakForDrain is s).holds[j] = if j ∈ is then brokenBy s .drain s.holds[j] else s.holds[j] := by
  induction is generalizing s with
  | nil => simp [breakForDrain]
  | cons i is ih =>
    have hfirst : (breakEntry .drain i s).holds[j] = if i = j then brokenBy s .drain s.holds[j] else s.holds[j] := by
      rw [breakEntry_holds, getElem_set_fin]
      split
      next hij => subst hij; rfl
      next => rfl
    simp only [breakForDrain]
    rw [ih, hfirst, brokenBy_congr (breakEntry_windows .drain i s)]
    by_cases hij : i = j
    · subst hij
      simp only [if_true, List.mem_cons, true_or]
      split
      · exact brokenBy_twice _
      · rfl
    · simp only [if_neg hij, List.mem_cons, Ne.symm hij, false_or]

theorem slotStep_breakForDrain (is : List HoldNo) (s : State) : SlotStep s (breakForDrain is s) := by
  induction is generalizing s with
  | nil => exact .of_eq rfl rfl
  | cons i is ih => exact (slotStep_breakEntry .drain i s).trans (ih _)

theorem breakForDrain_counters (hnodup : is.Nodup) (hforce : ∀ i ∈ is, InForce s i ∧ s.holds[i].window = w) :
    (breakForDrain is s).counters = (countTimes .holdsBroken w is.length s).counters := by
  induction is generalizing s with
  | nil => rfl
  | cons i is ih =>
    obtain ⟨hfresh, hnodup⟩ := List.nodup_cons.1 hnodup
    obtain ⟨hi, hw⟩ := hforce i (.head _)
    have hother (j : HoldNo) (hj : j ∈ is) : (breakEntry .drain i s).holds[j] = s.holds[j] := by
      rw [breakEntry_holds]
      exact getElem_set_other _ _ _ _ fun hij => hfresh (by rw [hij]; exact hj)
    have hrest := ih (s := breakEntry .drain i s) hnodup fun j hj => by
      simp only [InForce, hother j hj]
      exact hforce j (.tail _ hj)
    refine hrest.trans (countTimes_counters_congr _ _ _ ?_)
    rw [breakEntry_counters hi, hw]
    rfl

theorem breakForDrain_silent (is : List HoldNo) (s : State) :
    (breakForDrain is s).events = s.events ∧ (breakForDrain is s).alertLow = s.alertLow := by
  induction is generalizing s with
  | nil => exact ⟨rfl, rfl⟩
  | cons i is ih =>
    obtain ⟨hevents, hlow⟩ := breakEntry_silent (reason := .drain) (fun _ _ => rfl) i s
    exact ⟨(ih _).1.trans hevents, (ih _).2.trans hlow⟩

/-! ### Step 3: the fills that wait -/

/-- The target bank of a fill that a forced drain makes ACTIVE (R114, R175). -/
def drainTarget (s : State) (w : WindowNo) (r : Nat) : Option Bank := if (s.cfg w).mode = .banked then otherBank s w r else none

/-- No hold of the window is OPEN, no two fills are on one record, and in BANKED each record has another bank. -/
def Drained (s : State) (w : WindowNo) : Prop :=
  (∀ i : HoldNo, s.holds[i].state = .opened → s.holds[i].window ≠ w) ∧ FillsDistinct s
    ∧ ((s.cfg w).mode = .banked → ∀ r, otherBank s w r ≠ none)

/-- A window with valid fields has a bank besides any one bank in BANKED (R33). -/
theorem otherBank_ne_none (hvalid : (s.cfg w).badBankCount = false) (hbanked : (s.cfg w).mode = .banked) (r : Nat) :
    otherBank s w r ≠ none := by
  have hcount : 2 ≤ (s.cfg w).bankCount.toNat := by
    simp only [WinConfig.badBankCount, hbanked, decide_true, Bool.true_and, Bool.and_eq_false_iff, decide_eq_false_iff_not, not_not]
      at hvalid
    rcases hvalid with h | h <;> rw [h] <;> decide
  have hused (k : Bank) (hk : k.val < 2) : k ∈ (s.cfg w).usedBanks := by
    rw [WinConfig.usedBanks, if_pos hbanked, List.mem_filter, decide_eq_true_eq]
    exact ⟨List.mem_finRange k, by omega⟩
  intro hnone
  have hactive (k : Bank) (hk : k.val < 2) : k = (s.dirEntry w r).activeBank := by
    simpa only [decide_eq_true_eq, not_not] using List.find?_eq_none.1 hnone k (hused k hk)
  exact absurd ((hactive 0 (by decide)).trans (hactive 1 (by decide)).symm) (by decide)

theorem mayBeActive_drained (h : Drained s w) (r : Nat) (m : Tag) : MayBeActive s w r m (drainTarget s w r) := by
  obtain ⟨hnone, -, hbank⟩ := h
  have hopen (i : HoldNo) : ¬ OpenOn s w r i := fun ⟨hopen, hw, _⟩ => hnone i hopen hw
  unfold MayBeActive drainTarget
  cases hmode : (s.cfg w).mode with
  | single => exact ⟨if_neg (by decide), fun i hi => absurd hi (hopen i)⟩
  | snap => exact if_neg (by decide)
  | banked =>
    obtain ⟨k, hk⟩ := Option.ne_none_iff_exists'.1 (hbank hmode r)
    have hspare (j : Bank) : Spare s w r j ↔ j ∈ (s.cfg w).usedBanks ∧ j ≠ (s.dirEntry w r).activeBank := by
      refine ⟨fun ⟨hused, hne, _⟩ => ⟨hused, hne⟩, fun ⟨hused, hne⟩ => ⟨hused, hne, fun i hi => absurd hi (hopen i)⟩⟩
    have hlowest : (spareBanks s w r).head? = some k := by
      rw [← hk, otherBank, ← List.head?_filter]
      refine congrArg List.head? (List.filter_congr fun j hj => ?_)
      have hpins : (pinsOf s w r j).isEmpty = true := (pinsOf_isEmpty j).2 fun i hi => absurd hi (hopen i)
      rw [hpins, Bool.and_true]
    exact ⟨k, (if_pos rfl).trans hk, (spareBanks_head? k).1 hlowest⟩

theorem openFill_of_distinct (h : FillsDistinct s) (hf : s.fills[f].state ≠ .free) :
    openFill s s.fills[f].window s.fills[f].record = some f := by
  refine tableFind_eq_some_iff.2 ⟨?_, fun g hg => ?_⟩
  · simp [Fill.isOpenOn, -Fin.getElem_fin, hf]
  · simp only [Fill.isOpenOn, Bool.and_eq_true, decide_eq_true_eq] at hg
    obtain ⟨⟨hfree, hw⟩, hr⟩ := hg
    exact le_of_eq (h f g hf hfree hw.symm hr.symm)

/-- A fill after step 3. -/
def drainActive (s : State) (fs : List FillNo) (f : FillNo) : Fill :=
  if f ∈ fs ∧ s.fills[f].state = .waiting then
    activeFill s (drainTarget s s.fills[f].window s.fills[f].record) s.fills[f]
  else s.fills[f]

/-- One fill of step 3. -/
theorem tryActivate_drained (h : Drained s w) (hf : s.fills[f].state ≠ .free) (hw : s.fills[f].window = w)
    (ht : t = tryActivate s.fills[f].window s.fills[f].record s) :
    (∀ g, t.fills[g] = drainActive s [f] g) ∧ t.park = s.park.map (parkAfter s t)
      ∧ t = { s with lanes := t.lanes, fills := t.fills, park := t.park } := by
  have hframe : t = { s with lanes := t.lanes, fills := t.fills, park := t.park } := by
    rw [ht]
    exact tryActivate_writes _ _ s
  obtain ⟨-, hdistinct, -⟩ := id h
  have hfound := openFill_of_distinct hdistinct hf
  by_cases hwaits : s.fills[f].state = .waiting
  · have hplace : MayBeActive s s.fills[f].window s.fills[f].record s.fills[f].owner
        (drainTarget s s.fills[f].window s.fills[f].record) := by
      rw [hw]
      exact mayBeActive_drained h _ _
    have hactivated := tryActivate_of_active hfound hwaits hplace
    rw [← ht] at hactivated
    have hfills : t.fills = s.fills.set f (activeFill s (drainTarget s s.fills[f].window s.fills[f].record) s.fills[f]) := by
      rw [hactivated]
      rfl
    refine ⟨fun g => ?_, ?_, hframe⟩
    · rw [hfills, getElem_set_fin]
      unfold drainActive
      by_cases hfg : f = g
      · subst hfg
        rw [if_pos rfl, if_pos ⟨.head _, hwaits⟩]
      · rw [if_neg hfg, if_neg]
        rintro ⟨hmem, -⟩
        exact hfg (List.mem_singleton.1 hmem).symm
    · refine Eq.trans ?_ (map_releasedBy_eq hwaits hfills)
      rw [hactivated]
      exact activateFill_park f _ s
  · have hstays : t = s := by
      rw [ht]
      refine tryActivate_of_held fun g hg hgw => ?_
      obtain rfl := Option.some.inj (hfound.symm.trans hg)
      exact absurd hgw hwaits
    refine ⟨fun g => ?_, ?_, hframe⟩
    · unfold drainActive
      rw [if_neg, hstays]
      rintro ⟨hmem, hgw⟩
      rw [List.mem_singleton.1 hmem] at hgw
      exact hwaits hgw
    · rw [map_parkAfter_of_fills (by rw [hstays]), hstays]

theorem drainActive_keeps (s : State) (fs : List FillNo) (f : FillNo) :
    (drainActive s fs f).window = s.fills[f].window ∧ (drainActive s fs f).record = s.fills[f].record
      ∧ (drainActive s fs f).owner = s.fills[f].owner ∧ (drainActive s fs f).generation = s.fills[f].generation
      ∧ (drainActive s fs f).coverage = s.fills[f].coverage ∧ (drainActive s fs f).parked = s.fills[f].parked
      ∧ (drainActive s fs f).abandoned = s.fills[f].abandoned
      ∧ ((drainActive s fs f).state = .free ↔ s.fills[f].state = .free) := by
  unfold drainActive
  split
  next h => exact ⟨rfl, rfl, rfl, rfl, rfl, rfl, rfl, iff_of_false nofun (by rw [h.2]; decide)⟩
  next => exact ⟨rfl, rfl, rfl, rfl, rfl, rfl, rfl, Iff.rfl⟩

theorem fillsDistinct_congr (h : FillsDistinct s) (hfills : ∀ f : FillNo, t.fills[f].window = s.fills[f].window
    ∧ t.fills[f].record = s.fills[f].record ∧ (t.fills[f].state = .free ↔ s.fills[f].state = .free)) : FillsDistinct t := by
  intro f g hf hg hw hr
  obtain ⟨fw, fr, ff⟩ := hfills f
  obtain ⟨gw, gr, gf⟩ := hfills g
  rw [fw, gw] at hw
  rw [fr, gr] at hr
  exact h f g (fun hfree => hf (ff.2 hfree)) (fun hfree => hg (gf.2 hfree)) hw hr

/-- Step 3: each WAITING fill listed is ACTIVE, and its words are RELEASED. -/
theorem activateFills_spec (h : Drained s w) (hnodup : fs.Nodup)
    (hfs : ∀ f ∈ fs, s.fills[f].state ≠ .free ∧ s.fills[f].window = w) :
    (∀ g, (activateFills fs s).fills[g] = drainActive s fs g)
      ∧ (activateFills fs s).park = s.park.map (parkAfter s (activateFills fs s)) := by
  induction fs generalizing s with
  | nil =>
    refine ⟨fun g => ?_, (map_parkAfter_of_fills rfl).symm⟩
    unfold drainActive
    rw [if_neg fun hmem => List.not_mem_nil hmem.1]
    rfl
  | cons f fs ih =>
    obtain ⟨hfresh, hnodup⟩ := List.nodup_cons.1 hnodup
    obtain ⟨hf, hw⟩ := hfs f (.head _)
    let b := tryActivate s.fills[f].window s.fills[f].record s
    obtain ⟨hfirst, hpark, hb⟩ := tryActivate_drained (t := b) h hf hw rfl
    have hkeeps (g : FillNo) := drainActive_keeps s [f] g
    simp only [← hfirst] at hkeeps
    have hcfg : b.cfg = s.cfg := by rw [hb]; rfl
    have htarget : drainTarget b = drainTarget s := by rw [hb]; rfl
    have hready : Drained b w := by
      obtain ⟨hnone, hdistinct, hbank⟩ := h
      have hother : otherBank b = otherBank s := by rw [hb]; rfl
      have hholds : b.holds = s.holds := by rw [hb]
      refine ⟨?_, fillsDistinct_congr hdistinct fun g => ?_, ?_⟩
      · rw [hholds]
        exact hnone
      · obtain ⟨gw, gr, -, -, -, -, -, gf⟩ := hkeeps g
        exact ⟨gw, gr, gf⟩
      · rw [hcfg, hother]
        exact hbank
    have hother (g : FillNo) (hg : g ≠ f) : b.fills[g] = s.fills[g] := by
      rw [hfirst]
      unfold drainActive
      rw [if_neg fun hmem => hg (List.mem_singleton.1 hmem.1)]
    obtain ⟨hrest, hpark'⟩ := ih (s := b) hready hnodup fun g hg => by
      rw [hother g fun hgf => hfresh (by rw [← hgf]; exact hg)]
      exact hfs g (.tail _ hg)
    have hfills (g : FillNo) : (activateFills fs b).fills[g] = drainActive s (f :: fs) g := by
      rw [hrest]
      by_cases hgf : g = f
      · subst hgf
        have hout : drainActive b fs g = b.fills[g] := if_neg fun hmem => hfresh hmem.1
        rw [hout, hfirst]
        simp only [drainActive, List.mem_cons, true_or, true_and]
      · unfold drainActive
        rw [hother g hgf, htarget]
        simp only [List.mem_cons, hgf, false_or, activeFill, hcfg]
    refine ⟨hfills, ?_⟩
    refine hpark'.trans ?_
    rw [hpark, List.map_map]
    refine List.map_congr_left fun e _ => parkAfter_parkAfter hcfg (fun g => ?_) (fun g => ?_) e
    · rw [hfirst]
      unfold drainActive
      split
      next hin => exact .inr ⟨hin.2, rfl⟩
      next => exact .inl rfl
    · rw [hrest]
      unfold drainActive
      split
      next hin => exact .inr hin.2
      next => exact .inl rfl

/-! ### Step 4: the abandonments -/

/-- The fill in entry f is one that a forced drain abandons: open, with words uncovered, and not abandoned before (R175). -/
def abandons (s : State) (f : FillNo) : Bool :=
  decide (s.fills[f].state ≠ .free ∧ s.fills[f].abandoned = false
    ∧ covers (s.cfg s.fills[f].window).guardLen.toNat s.fills[f].coverage = false)

/-- A fill after its abandonment (R84). -/
def abandonedFill (x : Fill) : Fill := if x.parked = 0 then .cleared x.generation else { x with abandoned := true }

theorem abandonFill_fill (f g : FillNo) (s : State) :
    (abandonFill f s).fills[g] = if f = g then abandonedFill s.fills[g] else s.fills[g] := by
  rw [abandonFill_fills, getElem_set_fin]
  split
  next hfg => subst hfg; rfl
  next => rfl

theorem abandonFill_dirWf (h : dirWf s.directory) (f : FillNo) : dirWf (abandonFill f s).directory := by
  rw [abandonFill_directory]
  split
  · exact h
  · exact dirPut_wf h

/-- Step 4: the fills listed that are to be abandoned, one by one (R84, R175). -/
theorem abandonIncomplete_spec (hnodup : fs.Nodup) (hw : ∀ f ∈ fs, s.fills[f].window = w) (hdir : dirWf s.directory)
    (ht : t = abandonIncomplete fs s) :
    (∀ g, t.fills[g] = if g ∈ fs ∧ abandons s g = true then abandonedFill s.fills[g] else s.fills[g])
      ∧ t.counters = (countTimes .fillsAbandoned w (fs.filter (abandons s)).length s).counters
      ∧ ReportedAll ((fs.filter (abandons s)).map fun f => .of .fillAbandoned w s.fills[f].record s.fills[f].owner) s t
      ∧ (∀ j, dirGet t.directory j =
          if (s.cfg w).mode ≠ .banked ∧ ∃ f ∈ fs, abandons s f = true ∧ (s.cfg w).dirIndex s.fills[f].record = j then
            { dirGet s.directory j with damaged := true }
          else dirGet s.directory j) := by
  induction fs generalizing s with
  | nil =>
    subst ht
    refine ⟨fun g => ?_, rfl, reportedAll_nil rfl rfl, fun j => ?_⟩
    · exact (if_neg fun hmem => List.not_mem_nil hmem.1).symm
    · refine (if_neg ?_).symm
      rintro ⟨-, f, hf, -⟩
      cases hf
  | cons f fs ih =>
    obtain ⟨hfresh, hnodup⟩ := List.nodup_cons.1 hnodup
    have hwf := hw f (.head _)
    cases hgoes : abandons s f with
    | false =>
      have hskip : t = abandonIncomplete fs s := by
        rw [ht, abandonIncomplete]
        exact congrArg (abandonIncomplete fs) (if_neg (of_decide_eq_false hgoes))
      obtain ⟨hfills, hcounters, hreports, hdirectory⟩ := ih hnodup (fun g hg => hw g (.tail _ hg)) hdir hskip
      have hlist : (f :: fs).filter (abandons s) = fs.filter (abandons s) := List.filter_cons_of_neg (by rw [hgoes]; decide)
      have hmem (g : FillNo) : g ∈ f :: fs ∧ abandons s g = true ↔ g ∈ fs ∧ abandons s g = true := by
        refine ⟨fun ⟨hg, habandons⟩ => ⟨?_, habandons⟩, fun ⟨hg, habandons⟩ => ⟨.tail _ hg, habandons⟩⟩
        rcases List.mem_cons.1 hg with rfl | hg
        · rw [hgoes] at habandons
          cases habandons
        · exact hg
      refine ⟨fun g => ?_, ?_, ?_, fun j => ?_⟩
      · rw [hfills]
        simp only [hmem]
      · rw [hlist]
        exact hcounters
      · rw [hlist]
        exact hreports
      · rw [hdirectory]
        simp only [← and_assoc, hmem]
    | true =>
      let b := abandonFill f s
      have hgone : t = abandonIncomplete fs b := by
        rw [ht, abandonIncomplete]
        exact congrArg (abandonIncomplete fs) (if_pos (of_decide_eq_true hgoes))
      have hb : b = { s with
          lanes := b.lanes, directory := b.directory, fills := b.fills, events := b.events, counters := b.counters
          alertLow := b.alertLow } := abandonFill_writes f s
      have hcfg : b.cfg = s.cfg := by rw [hb]; rfl
      have hother (g : FillNo) (hg : g ≠ f) : b.fills[g] = s.fills[g] := by
        rw [abandonFill_fill, if_neg hg.symm]
      have hout (g : FillNo) (hg : g ∈ fs) : g ≠ f := fun h => hfresh (by rw [← h]; exact hg)
      have habandons (g : FillNo) (hg : g ≠ f) : abandons b g = abandons s g := by
        simp only [abandons, hother g hg, hcfg]
      obtain ⟨hfills, hcounters, hreports, hdirectory⟩ := ih (s := b) hnodup
        (fun g hg => by rw [hother g (hout g hg)]; exact hw g (.tail _ hg)) (abandonFill_dirWf hdir f) hgone
      have hlist : (f :: fs).filter (abandons s) = f :: fs.filter (abandons b) := by
        rw [List.filter_cons_of_pos hgoes, List.filter_congr fun g hg => (habandons g (hout g hg)).symm]
      obtain ⟨hcount, hreport⟩ := abandonFill_reports f s
      refine ⟨fun g => ?_, ?_, ?_, fun j => ?_⟩
      · rw [hfills]
        by_cases hgf : g = f
        · subst hgf
          rw [if_neg fun hmem => hfresh hmem.1, if_pos ⟨.head _, hgoes⟩, abandonFill_fill, if_pos rfl]
        · simp only [hother g hgf, habandons g hgf, List.mem_cons, hgf, false_or]
      · rw [hcounters, hlist]
        refine countTimes_counters_congr .fillsAbandoned w _ (s := count .fillsAbandoned w s) ?_
        rw [hcount, hwf]
        rfl
      · rw [hlist, List.map_cons]
        rw [hwf] at hreport
        have hnames : ((fs.filter (abandons b)).map fun g => Report.of .fillAbandoned w b.fills[g].record b.fills[g].owner)
            = (fs.filter (abandons b)).map fun g => .of .fillAbandoned w s.fills[g].record s.fills[g].owner :=
          List.map_congr_left fun g hg => by rw [hother g (hout g (List.mem_of_mem_filter hg))]
        rw [hnames] at hreports
        have hclock : b.timeBase = s.timeBase := by rw [hb]
        exact reportedAll_append (rs := [_]) hreport hclock hreports
      · have hfirst : dirGet b.directory j =
            if (s.cfg w).mode ≠ .banked ∧ (s.cfg w).dirIndex s.fills[f].record = j then
              { dirGet s.directory j with damaged := true } else dirGet s.directory j := by
          rw [abandonFill_directory, hwf]
          by_cases hbanked : (s.cfg w).mode = .banked
          · rw [if_pos hbanked, if_neg fun h => h.1 hbanked]
          · rw [if_neg hbanked, dirGet_markDamaged hdir]
            by_cases hindex : (s.cfg w).dirIndex s.fills[f].record = j
            · rw [if_pos hindex, if_pos ⟨hbanked, hindex⟩, hindex]
            · rw [if_neg hindex, if_neg fun h => hindex h.2]
        have hrest : (∃ g ∈ fs, abandons b g = true ∧ (s.cfg w).dirIndex b.fills[g].record = j)
            ↔ ∃ g ∈ fs, abandons s g = true ∧ (s.cfg w).dirIndex s.fills[g].record = j := by
          refine exists_congr fun g => and_congr_right fun hg => ?_
          rw [habandons g (hout g hg), hother g (hout g hg)]
        have hall : (∃ g ∈ f :: fs, abandons s g = true ∧ (s.cfg w).dirIndex s.fills[g].record = j)
            ↔ (s.cfg w).dirIndex s.fills[f].record = j
              ∨ ∃ g ∈ fs, abandons s g = true ∧ (s.cfg w).dirIndex s.fills[g].record = j := by
          simp only [List.exists_mem_cons_iff, hgoes, true_and]
        rw [hdirectory, hfirst, hcfg]
        simp only [hrest, hall]
        by_cases hmode : (s.cfg w).mode = .banked
        · simp [hmode]
        · by_cases hindex : (s.cfg w).dirIndex s.fills[f].record = j
          · simp only [hmode, hindex, ne_eq, not_false_eq_true, true_and, true_or, if_true]
            split <;> rfl
          · simp only [hmode, hindex, ne_eq, not_false_eq_true, true_and, false_or, if_false]

end

end Sys2Proof.Machine
end

section
/-! SUPPORT. The forced drain as a whole (R174, R175, R176): statement O32. -/

namespace Sys2Proof.Machine

open Sys2Proof.Statements

section
variable {s t u x : State} {w : WindowNo} {r : Nat} {m : Tag} {i : HoldNo} {f : FillNo}

/-! ### The completion that follows -/

/-- The test of a forced window: it is OFF exactly where it is complete, with its BROKEN entries out of service. -/
theorem drainTest_outcome {n : BitVec 16} {forced : Bool} (hstate : x.windows[w].state = .draining n forced)
    (ht : t = drainTest w x) :
    (t.windows[w].state = .off ∨ t.windows[w].state = .draining n forced)
      ∧ (t.windows[w].state = .off ↔ windowComplete x w = true)
      ∧ t.windows = x.windows.set w { x.windows[w] with state := t.windows[w].state }
      ∧ (∀ i : HoldNo, t.holds[i] = if t.windows[w].state = .off then x.holds[i].leaveService w else x.holds[i])
      ∧ ReportedAll (if t.windows[w].state = .off then [drainDoneReport w] else []) x t := by
  by_cases hcomplete : windowComplete x w = true
  · rw [drainTest_of_complete (isDraining_of_state hstate) hcomplete] at ht
    have hwindows : t.windows = x.windows.set w { x.windows[w] with state := .off } := by rw [ht, completeDrain_windows]
    have hoff : t.windows[w].state = .off := by
      rw [hwindows]
      exact congrArg Window.state (getElem_set_same _ _ _)
    refine ⟨.inl hoff, iff_of_true hoff hcomplete, by rw [hoff]; exact hwindows, fun i => ?_, ?_⟩
    · rw [if_pos hoff, ht, completeDrain_holds, getElem_tableMap]
    · rw [if_pos hoff, ht]
      exact reported_completeDrain w rfl rfl rfl
  · have hstays : t = x := by
      rw [ht, drainTest, if_neg]
      rw [Bool.and_eq_true]
      exact fun h => hcomplete h.2
    have hforced : t.windows[w].state = .draining n forced := by rw [hstays]; exact hstate
    have hon : t.windows[w].state ≠ .off := by rw [hforced]; nofun
    refine ⟨.inr hforced, iff_of_false hon hcomplete, ?_, fun i => ?_, ?_⟩
    · rw [hstays]
      exact (set_self _ _).symm
    · rw [if_neg hon, hstays]
    · rw [if_neg hon, hstays]
      exact reportedAll_nil rfl rfl

/-! ### The state that is tested -/

/-- Steps 1 and 2: the forced mark, and the holds broken. -/
def drainBroken (w : WindowNo) (s : State) : State :=
  reofferWhen (Stall.touchedByDrain w) (breakForDrain (holdsInForce s w) (s.setWindow w s.windows[w].force).drawn)

/-- After step 4. -/
def drainAbandoned (w : WindowNo) (s : State) : State :=
  abandonIncomplete (freeOrder s.freeCount (fillsOf s w)) (activateFills (fillsOf s w) (drainBroken w s))

theorem forceDrain_eq (w : WindowNo) (s : State) : forceDrain w s = drainTest w
    (report (drainForcedReport w ((holdsInForce s w).length + (fillsOf s w).length)) (drainAbandoned w s)) := rfl

theorem brokenBy_of_cfg (h : t.cfg = s.cfg) (reason : BreakReason) (x : Hold) : brokenBy t reason x = brokenBy s reason x := by
  simp only [brokenBy, brokenHold, h]

theorem mem_fillsOf : f ∈ fillsOf s w ↔ s.fills[f].state ≠ .free ∧ s.fills[f].window = w := by
  rw [fillsOf, mem_tableAll]
  simp only [Bool.and_eq_true, decide_eq_true_eq]

theorem fillsOf_nodup : (fillsOf s w).Nodup := tableAll_nodup _ _

theorem force_cfg (x : Window) : x.force.cfg = x.cfg := by
  unfold Window.force
  split <;> rfl

theorem drainBroken_spec (w : WindowNo) (s : State) :
    (drainBroken w s).windows = s.windows.set w s.windows[w].force
      ∧ (drainBroken w s).cfg = s.cfg
      ∧ (∀ i : HoldNo, (drainBroken w s).holds[i] =
          if i ∈ holdsInForce s w then brokenBy s .drain s.holds[i] else s.holds[i])
      ∧ SlotStep s (drainBroken w s)
      ∧ (drainBroken w s).counters = (countTimes .holdsBroken w (holdsInForce s w).length s).counters
      ∧ (drainBroken w s).events = s.events ∧ (drainBroken w s).alertLow = s.alertLow
      ∧ SameRequests s (drainBroken w s)
      ∧ drainBroken w s = { s with
          lanes := (drainBroken w s).lanes, windows := (drainBroken w s).windows, holds := (drainBroken w s).holds
          slots := (drainBroken w s).slots, events := (drainBroken w s).events, counters := (drainBroken w s).counters
          alertLow := (drainBroken w s).alertLow, freeCount := (drainBroken w s).freeCount } := by
  let a := (s.setWindow w s.windows[w].force).drawn
  let b := breakForDrain (holdsInForce s w) a
  have hb : b = { a with
      holds := b.holds, slots := b.slots, events := b.events, counters := b.counters, alertLow := b.alertLow } :=
    breakForDrain_writes (holdsInForce s w) a
  have hcfg : a.cfg = s.cfg := by
    funext v
    change (s.windows.set w s.windows[w].force)[v].cfg = s.windows[v].cfg
    rw [getElem_set_fin]
    split
    next hwv => subst hwv; exact force_cfg _
    next => rfl
  have hwindows : b.windows = a.windows := by rw [hb]
  have hcount : b.freeCount = a.freeCount := by rw [hb]
  have hlanes : b.lanes = s.lanes := by
    rw [hb]
    rfl
  have hbcfg : b.cfg = a.cfg := by rw [hb]; rfl
  have hforce (i : HoldNo) (hi : i ∈ holdsInForce s w) : InForce a i ∧ a.holds[i].window = w := mem_holdsInForce.1 hi
  obtain ⟨hevents, hlow⟩ := breakForDrain_silent (holdsInForce s w) a
  refine ⟨hwindows, hbcfg.trans hcfg, fun i => ?_, ?_, ?_, hevents, hlow, ?_, ?_⟩
  · refine (breakForDrain_hold (holdsInForce s w) i a).trans ?_
    rw [brokenBy_of_cfg hcfg]
    rfl
  · exact (SlotStep.of_eq (t := a) rfl rfl).trans ((slotStep_breakForDrain _ a).trans (.of_eq rfl rfl))
  · exact (breakForDrain_counters (tableAll_nodup _ _) hforce).trans (countTimes_counters_congr _ _ _ rfl)
  · exact (SameRequests.of_lanes hlanes).trans (sameRequests_reofferWhen _ b)
  · have hwhole : b = { s with
        lanes := b.lanes, windows := b.windows, holds := b.holds, slots := b.slots, events := b.events
        counters := b.counters, alertLow := b.alertLow, freeCount := b.freeCount } := by
      rw [hwindows, hcount, hlanes]
      exact hb
    exact congrArg (reofferWhen (Stall.touchedByDrain w)) hwhole

theorem drainTarget_congr (hcfg : t.cfg = s.cfg) (hdirectory : t.directory = s.directory) (v : WindowNo) (q : Nat) :
    drainTarget t v q = drainTarget s v q := by
  have hentry : t.dirEntry v q = s.dirEntry v q := by rw [State.dirEntry, State.dirEntry, hcfg, hdirectory]
  rw [drainTarget, drainTarget, otherBank, otherBank, hcfg, hentry]

/-- After the breaks no hold of the window is OPEN, and its fills have a bank to go to (R114, R175). -/
theorem drained_drainBroken (h : Coherent s) (hdecoded : s.windows[w].decoded = true) : Drained (drainBroken w s) w := by
  obtain ⟨-, hcfg, hholds, -, -, -, -, -, hframe⟩ := drainBroken_spec w s
  refine ⟨fun i hopen hw => ?_, ?_, fun hbanked r => ?_⟩
  · rw [hholds] at hopen hw
    split at hopen
    · exact brokenBy_notOpen s .drain _ hopen
    next hnot =>
      rw [if_neg hnot] at hw
      exact hnot (mem_holdsInForce.2 ⟨.inl hopen, hw⟩)
  · exact fillsDistinct_congr h.fillsDistinct fun f => by rw [hframe]; exact ⟨rfl, rfl, Iff.rfl⟩
  · rw [hcfg] at hbanked
    obtain ⟨-, -, hcount⟩ := h.fieldsValid w hdecoded
    exact otherBank_ne_none (by rw [hcfg]; exact hcount) (by rw [hcfg]; exact hbanked) r

theorem parkAfter_congr (hcfg : u.cfg = s.cfg) (hfills : u.fills = s.fills) : parkAfter u t = parkAfter s t := by
  funext e
  cases hfill : e.fill with
  | none => rw [parkAfter_of_none hfill, parkAfter_of_none hfill]
  | some ref => simp only [parkAfter, hfill, releasedBy, hcfg, hfills]

/-- What steps 1 to 4 leave of fills, parked words, directory, counters and reports. -/
theorem drainAbandoned_spec (h : Coherent s) (hdir : dirWf s.directory) (hdecoded : s.windows[w].decoded = true)
    (hx : x = drainAbandoned w s) :
    (∀ f, x.fills[f] = if f ∈ fillsOf s w ∧ abandons s f = true then abandonedFill (drainActive s (fillsOf s w) f)
        else drainActive s (fillsOf s w) f)
      ∧ x.park = s.park.map (parkAfter s (activateFills (fillsOf s w) (drainBroken w s)))
      ∧ (∀ f, (activateFills (fillsOf s w) (drainBroken w s)).fills[f] = drainActive s (fillsOf s w) f)
      ∧ (∀ j, dirGet x.directory j =
          if (s.cfg w).mode ≠ .banked ∧ ∃ f ∈ fillsOf s w, abandons s f = true ∧ (s.cfg w).dirIndex s.fills[f].record = j then
            { dirGet s.directory j with damaged := true }
          else dirGet s.directory j)
      ∧ x.counters = (countTimes .fillsAbandoned w ((freeOrder s.freeCount (fillsOf s w)).filter (abandons s)).length
          (countTimes .holdsBroken w (holdsInForce s w).length s)).counters
      ∧ ReportedAll (((freeOrder s.freeCount (fillsOf s w)).filter (abandons s)).map fun f =>
          .of .fillAbandoned w s.fills[f].record s.fills[f].owner) s x
      ∧ SameRequests s x
      ∧ x = { s with
          lanes := x.lanes, windows := (drainBroken w s).windows, directory := x.directory, holds := (drainBroken w s).holds
          fills := x.fills, park := x.park, slots := (drainBroken w s).slots, events := x.events, counters := x.counters
          alertLow := x.alertLow, freeCount := x.freeCount } := by
  let b := drainBroken w s
  let y := activateFills (fillsOf s w) b
  let order := freeOrder s.freeCount (fillsOf s w)
  obtain ⟨-, hcfg, -, -, hcounters, hevents, hlow, hreqs, hb⟩ := drainBroken_spec w s
  have hbfills : b.fills = s.fills := by
    have h := congrArg State.fills hb
    exact h
  have hbdirectory : b.directory = s.directory := by
    have h := congrArg State.directory hb
    exact h
  have hbpark : b.park = s.park := by
    have h := congrArg State.park hb
    exact h
  have hbclock : b.timeBase = s.timeBase := by
    have h := congrArg State.timeBase hb
    exact h
  have hready : Drained b w := drained_drainBroken h hdecoded
  have hopen (f : FillNo) (hf : f ∈ fillsOf s w) : b.fills[f].state ≠ .free ∧ b.fills[f].window = w := by
    rw [hbfills]
    exact mem_fillsOf.1 hf
  obtain ⟨hyfills, hypark⟩ := activateFills_spec hready fillsOf_nodup hopen
  have hy : y = { b with lanes := y.lanes, fills := y.fills, park := y.park } := activateFills_writes (fillsOf s w) b
  have hgoing (f : FillNo) : drainActive b (fillsOf s w) f = drainActive s (fillsOf s w) f := by
    unfold drainActive
    rw [hbfills, drainTarget_congr (s := s) (t := b) hcfg hbdirectory]
    simp only [activeFill]
    rw [show b.cfg = s.cfg from hcfg]
  have hyf (f : FillNo) : y.fills[f] = drainActive s (fillsOf s w) f := (hyfills f).trans (hgoing f)
  have hycfg : y.cfg = s.cfg := by
    have hsame : y.cfg = b.cfg := by rw [hy]; rfl
    exact hsame.trans hcfg
  have hydirectory : y.directory = s.directory := by
    have hsame : y.directory = b.directory := by rw [hy]
    exact hsame.trans hbdirectory
  have habandons : abandons y = abandons s := by
    funext f
    obtain ⟨fw, -, -, -, fc, -, fa, ff⟩ := drainActive_keeps s (fillsOf s w) f
    rw [← hyf] at fw fc fa ff
    simp only [abandons, fw, fc, fa, ne_eq, ff, hycfg]
  obtain ⟨hfills, hxcounters, hreports, hdirectory⟩ := abandonIncomplete_spec (s := y) (t := x) (w := w) (fs := order)
    (freeOrder_nodup fillsOf_nodup)
    (fun f hf => by
      rw [hyf, (drainActive_keeps s (fillsOf s w) f).1]
      exact (mem_fillsOf.1 (mem_freeOrder.1 hf)).2)
    (by rw [hydirectory]; exact hdir) hx
  rw [habandons] at hfills hxcounters hreports hdirectory
  have hxf := abandonIncomplete_writes order y
  rw [show abandonIncomplete order y = x from hx.symm] at hxf
  have hycounters : y.counters = b.counters := by rw [hy]
  refine ⟨fun f => ?_, ?_, hyf, fun j => ?_, ?_, ?_, ?_, ?_⟩
  · rw [hfills, hyf]
    simp only [order, mem_freeOrder]
  · have hxpark : x.park = y.park := by rw [hxf]
    rw [hxpark, hypark, hbpark, parkAfter_congr (s := s) (u := b) hcfg hbfills]
  · rw [hdirectory, hycfg, hydirectory]
    have hsame : (∃ f ∈ order, abandons s f = true ∧ (s.cfg w).dirIndex y.fills[f].record = j)
        ↔ ∃ f ∈ fillsOf s w, abandons s f = true ∧ (s.cfg w).dirIndex s.fills[f].record = j := by
      refine exists_congr fun f => ?_
      obtain ⟨-, fr, -⟩ := drainActive_keeps s (fillsOf s w) f
      rw [hyf, fr, mem_freeOrder]
    simp only [hsame]
  · rw [hxcounters]
    exact countTimes_counters_congr _ _ _ (hycounters.trans hcounters)
  · have hnames : ((order.filter (abandons s)).map fun f => Report.of .fillAbandoned w y.fills[f].record y.fills[f].owner)
        = (order.filter (abandons s)).map fun f => .of .fillAbandoned w s.fills[f].record s.fills[f].owner :=
      List.map_congr_left fun f _ => by
        obtain ⟨-, fr, fo, -⟩ := drainActive_keeps s (fillsOf s w) f
        rw [hyf, fr, fo]
    rw [hnames] at hreports
    have hkept : y.events = b.events ∧ y.alertLow = b.alertLow ∧ y.timeBase = b.timeBase := by
      rw [hy]
      exact ⟨rfl, rfl, rfl⟩
    obtain ⟨kevents, klow, kclock⟩ := hkept
    exact reportedAll_of_state hreports (kevents.trans hevents) (klow.trans hlow) (kclock.trans hbclock)
  · rw [hx]
    exact (hreqs.trans (sameRequests_activateFills _ b)).trans (sameRequests_abandonIncomplete _ _)
  · have hkept : x.park = y.park ∧ x.freeCount = b.freeCount := by
      rw [hxf, hy]
      exact ⟨rfl, rfl⟩
    rw [hkept.1, hkept.2]
    rw [hy] at hxf
    have hbase : b = { s with
        lanes := b.lanes, windows := b.windows, holds := b.holds, slots := b.slots, events := b.events
        counters := b.counters, alertLow := b.alertLow, freeCount := b.freeCount } := hb
    rw [hbase] at hxf
    exact hxf

/-! ### In the words of the statement -/

theorem mem_abandons : f ∈ fillsOf s w ∧ abandons s f = true ↔ (s.fills[f].window = w ∧ s.fills[f].state ≠ .free)
    ∧ s.fills[f].abandoned = false ∧ covers (s.cfg w).guardLen.toNat s.fills[f].coverage = false := by
  rw [mem_fillsOf, abandons, decide_eq_true_eq]
  constructor
  · rintro ⟨⟨hfree, hw⟩, -, habandoned, hcovers⟩
    rw [hw] at hcovers
    exact ⟨⟨hw, hfree⟩, habandoned, hcovers⟩
  · rintro ⟨⟨hw, hfree⟩, habandoned, hcovers⟩
    rw [hw]
    exact ⟨⟨hfree, rfl⟩, hfree, habandoned, hcovers⟩

theorem drainActive_of_waits (hw : s.fills[f].window = w) (hwaits : s.fills[f].state = .waiting) :
    drainActive s (fillsOf s w) f = activeFill s (drainTarget s w s.fills[f].record) s.fills[f] := by
  have hmem : f ∈ fillsOf s w := mem_fillsOf.2 ⟨by rw [hwaits]; decide, hw⟩
  rw [drainActive, if_pos ⟨hmem, hwaits⟩, hw]

theorem drainActive_of_stays (h : ¬ (s.fills[f].window = w ∧ s.fills[f].state = .waiting)) :
    drainActive s (fillsOf s w) f = s.fills[f] := by
  rw [drainActive, if_neg]
  rintro ⟨hmem, hwaits⟩
  exact h ⟨(mem_fillsOf.1 hmem).2, hwaits⟩

/-- After step 3 no fill of the window waits. -/
theorem drainActive_state (hw : (drainActive s (fillsOf s w) f).window = w) :
    (drainActive s (fillsOf s w) f).state ≠ .waiting := by
  by_cases h : s.fills[f].window = w ∧ s.fills[f].state = .waiting
  · rw [drainActive_of_waits h.1 h.2]
    nofun
  · rw [drainActive_of_stays h] at hw ⊢
    exact fun hwaits => h ⟨hw, hwaits⟩

theorem leaveService_of_inForce {h : Hold} (hforce : (h.leaveService w).state = .opened ∨ (h.leaveService w).state = .copying) :
    h.leaveService w = h := by
  rw [leaveService_eq] at hforce ⊢
  split at hforce
  next hbroken =>
    split at hforce
    · rcases hforce with hstate | hstate <;> cases hstate
    · have hstate : h.state = .opened ∨ h.state = .copying := hforce
      rw [hbroken.2] at hstate
      rcases hstate with hstate | hstate <;> cases hstate
  next hnot => rw [if_neg hnot]

theorem leaveService_opened {h : Hold} (hopen : h.state = .opened) : h.leaveService w = h := by
  rw [leaveService_eq, if_neg]
  rintro ⟨-, hbroken⟩
  rw [hopen] at hbroken
  cases hbroken

/-- The released words of step 3, as the statement says them. -/
theorem parkAfter_drained {t : State} {e : ParkEntry} {ref : FillRef}
    (ht : ∀ f : FillNo, t.fills[f] = drainActive s (fillsOf s w) f) (he : e.fill = some ref) :
    parkAfter s t e =
      if (s.fills[ref.index].window = w ∧ s.fills[ref.index].state ≠ .free) ∧ s.fills[ref.index].state = .waiting then
        releasedBy s ⟨ref.index, s.fills[ref.index].generation⟩ (drainTarget s w s.fills[ref.index].record) e
      else e := by
  by_cases h : s.fills[ref.index].window = w ∧ s.fills[ref.index].state = .waiting
  · obtain ⟨hw, hwaits⟩ := h
    have hentry : t.fills[ref.index] = activeFill s (drainTarget s w s.fills[ref.index].record) s.fills[ref.index] :=
      (ht ref.index).trans (drainActive_of_waits hw hwaits)
    rw [parkAfter_of_active he hwaits (by rw [hentry]; rfl), hentry, if_pos ⟨⟨hw, by rw [hwaits]; decide⟩, hwaits⟩]
    rfl
  · rw [parkAfter_of_stays he ((ht ref.index).trans (drainActive_of_stays h)), if_neg]
    exact fun ⟨⟨hw, _⟩, hwaits⟩ => h ⟨hw, hwaits⟩

/-- A drain whose countdown has run out is forced (R174). -/
theorem exec_drainCountdownExpiry (h : s.windows[w].state = .draining 0 false) :
    exec (.drainCountdownExpiry w) s = .next (forceDrain w s) := by
  change Host.Outcome.next (expireDrain w s) = _
  have hranOut : drainRanOut s w = true := by simp only [drainRanOut, h, decide_true, Bool.not_false, Bool.and_true]
  rw [expireDrain, if_pos hranOut]

/-- What the abandonments, the report and the test of a drain write, taken together. -/
theorem forceDrain_frame {b z : State} (hz : z = { s with
      lanes := z.lanes, windows := b.windows, directory := z.directory, holds := b.holds, fills := z.fills, park := z.park
      slots := b.slots, events := z.events, counters := z.counters, alertLow := z.alertLow, freeCount := z.freeCount })
    (hx : x = { z with events := x.events, alertLow := x.alertLow })
    (ht : t = { x with
      lanes := t.lanes, windows := t.windows, holds := t.holds, pendingSweeps := t.pendingSweeps, sweep := t.sweep
      events := t.events, alertLow := t.alertLow }) : t = { s with
      lanes := t.lanes, windows := t.windows, directory := t.directory, holds := t.holds, fills := t.fills, park := t.park
      slots := t.slots, pendingSweeps := t.pendingSweeps, sweep := t.sweep, events := t.events, counters := t.counters
      alertLow := t.alertLow, freeCount := t.freeCount } := by
  have hxz : x.directory = z.directory ∧ x.fills = z.fills ∧ x.park = z.park ∧ x.slots = z.slots ∧ x.counters = z.counters
      ∧ x.freeCount = z.freeCount := by
    rw [hx]
    exact ⟨rfl, rfl, rfl, rfl, rfl, rfl⟩
  have htx : t.directory = x.directory ∧ t.fills = x.fills ∧ t.park = x.park ∧ t.slots = x.slots ∧ t.counters = x.counters
      ∧ t.freeCount = x.freeCount := by
    rw [ht]
    exact ⟨rfl, rfl, rfl, rfl, rfl, rfl⟩
  obtain ⟨xdirectory, xfills, xpark, xslots, xcounters, xcount⟩ := hxz
  obtain ⟨tdirectory, tfills, tpark, tslots, tcounters, tcount⟩ := htx
  have zslots : z.slots = b.slots := by
    have h := congrArg State.slots hz
    exact h
  rw [tdirectory.trans xdirectory, tfills.trans xfills, tpark.trans xpark, tslots.trans (xslots.trans zslots),
    tcounters.trans xcounters, tcount.trans xcount]
  rw [hx, hz] at ht
  exact ht

theorem holdsInForce_of_broken (hhold : ∀ i : HoldNo, x.holds[i] =
    if i ∈ holdsInForce s w then brokenBy s .drain s.holds[i] else s.holds[i]) : holdsInForce x w = [] := by
  refine List.eq_nil_iff_forall_not_mem.2 fun i hi => ?_
  obtain ⟨hforce, hw⟩ := mem_holdsInForce.1 hi
  rw [InForce, hhold] at hforce
  rw [hhold] at hw
  split at hforce
  next hmem =>
    obtain ⟨hin, -⟩ := mem_holdsInForce.1 hmem
    rcases hin with hopen | hcopying
    · rw [brokenBy_opened hopen] at hforce
      rcases hforce with h | h <;> cases h
    · rw [brokenBy_copying hcopying] at hforce
      rcases hforce with h | h <;> cases h
  next hnot =>
    rw [if_neg hnot] at hw
    exact hnot (mem_holdsInForce.2 ⟨hforce, hw⟩)

theorem holdsInForce_of_leaveService {p : Prop} [Decidable p] (hnone : holdsInForce x w = [])
    (htholds : ∀ i : HoldNo, t.holds[i] = if p then x.holds[i].leaveService w else x.holds[i]) : holdsInForce t w = [] := by
  refine List.eq_nil_iff_forall_not_mem.2 fun i hi => ?_
  obtain ⟨hforce, hw⟩ := mem_holdsInForce.1 hi
  have hsame : t.holds[i] = x.holds[i] := by
    rw [InForce, htholds] at hforce
    rw [htholds]
    split at hforce
    next hclosed => rw [if_pos hclosed, leaveService_of_inForce hforce]
    next hopen => rw [if_neg hopen]
  rw [InForce, hsame] at hforce
  rw [hsame] at hw
  have hmem : i ∈ holdsInForce x w := mem_holdsInForce.2 ⟨hforce, hw⟩
  rw [hnone] at hmem
  cases hmem

/-- Steps 3 and 4 leave no fill of the window WAITING (R175). -/
theorem not_waiting_of_drained (hfill : t.fills[f] = if f ∈ fillsOf s w ∧ abandons s f = true then
      abandonedFill (drainActive s (fillsOf s w) f) else drainActive s (fillsOf s w) f)
    (hw : t.fills[f].window = w) : t.fills[f].state ≠ .waiting := by
  rw [hfill] at hw ⊢
  split at hw
  next hgone =>
    rw [if_pos hgone]
    unfold abandonedFill at hw ⊢
    split at hw
    next hparked => rw [if_pos hparked]; nofun
    next hparked => rw [if_neg hparked]; exact drainActive_state hw
  next hstays =>
    rw [if_neg hstays]
    exact drainActive_state hw

/-- A hold after step 2, as the statement says it. -/
theorem brokenForDrain_eq (s : State) (w : WindowNo) (i : HoldNo) :
    (if i ∈ holdsInForce s w then brokenBy s .drain s.holds[i] else s.holds[i]) =
      if s.holds[i].window = w ∧ (s.holds[i].state = .opened ∨ s.holds[i].state = .copying) then
        (if s.holds[i].state = .opened then brokenHold s .drain s.holds[i]
         else { s.holds[i] with state := .broken, countdown := (s.cfg w).linger, reason := some .drain })
      else s.holds[i] := by
  by_cases hin : s.holds[i].window = w ∧ (s.holds[i].state = .opened ∨ s.holds[i].state = .copying)
  · rw [if_pos (mem_holdsInForce.2 ⟨hin.2, hin.1⟩), if_pos hin]
    obtain ⟨hw, hopen | hcopying⟩ := hin
    · rw [if_pos hopen, brokenBy_opened hopen]
    · rw [if_neg (by rw [hcopying]; decide), brokenBy_copying hcopying, ← hw]
  · rw [if_neg fun hmem => hin (mem_holdsInForce.1 hmem).symm, if_neg hin]

/-- A hold after the test of the drain, as the statement says it. -/
theorem leaveServiceIf_eq {p : Prop} [Decidable p] (w : WindowNo) (h : Hold) : (if p then h.leaveService w else h) =
    if p ∧ h.window = w ∧ h.state = .broken then
      (if h.slot = none then .cleared else { h with leftService := true })
    else h := by
  by_cases hclosed : p
  · rw [if_pos hclosed, leaveService_eq]
    simp only [hclosed, true_and]
  · rw [if_neg hclosed, if_neg fun hcond => hclosed hcond.1]
/-- The completion of a drain touches no OPEN hold, so the slots follow it. -/
theorem slotStep_of_leaveService {p : Prop} [Decidable p] (hslots : t.slots = x.slots)
    (htholds : ∀ i : HoldNo, t.holds[i] = if p then x.holds[i].leaveService w else x.holds[i]) : SlotStep x t := by
  refine .of_open hslots fun i => ?_
  rw [htholds]
  by_cases hclosed : p
  · rw [if_pos hclosed]
    refine ⟨⟨fun hopen => ?_, fun hopen => by rw [leaveService_opened hopen]; exact hopen⟩,
      fun hopen => by rw [leaveService_opened hopen]⟩
    rw [leaveService_of_inForce (.inl hopen)] at hopen
    exact hopen
  · rw [if_neg hclosed]
    exact ⟨Iff.rfl, fun _ => rfl⟩
/-- A fill after step 3, as the statement says it. -/
theorem drainActive_eq (s : State) (w : WindowNo) (f : FillNo) : drainActive s (fillsOf s w) f =
    if (s.fills[f].window = w ∧ s.fills[f].state ≠ .free) ∧ s.fills[f].state = .waiting then
      activeFill s (drainTarget s w s.fills[f].record) s.fills[f] else s.fills[f] := by
  by_cases h : s.fills[f].window = w ∧ s.fills[f].state = .waiting
  · obtain ⟨hw, hwaits⟩ := h
    rw [if_pos ⟨⟨hw, by rw [hwaits]; decide⟩, hwaits⟩]
    exact drainActive_of_waits hw hwaits
  · rw [if_neg fun ⟨⟨hw, _⟩, hwaits⟩ => h ⟨hw, hwaits⟩]
    exact drainActive_of_stays h

/-- A fill after step 4, as the statement says it. -/
theorem drainedFill_eq (s : State) (w : WindowNo) (f : FillNo) :
    (if f ∈ fillsOf s w ∧ abandons s f = true then abandonedFill (drainActive s (fillsOf s w) f)
        else drainActive s (fillsOf s w) f) =
      if (s.fills[f].window = w ∧ s.fills[f].state ≠ .free) ∧ s.fills[f].abandoned = false
          ∧ covers (s.cfg w).guardLen.toNat s.fills[f].coverage = false then
        (if s.fills[f].parked = 0 then .cleared s.fills[f].generation
         else { drainActive s (fillsOf s w) f with abandoned := true })
      else drainActive s (fillsOf s w) f := by
  obtain ⟨-, -, -, hgeneration, -, hparked, -⟩ := drainActive_keeps s (fillsOf s w) f
  by_cases hgone : f ∈ fillsOf s w ∧ abandons s f = true
  · rw [if_pos hgone, if_pos (mem_abandons.1 hgone)]
    unfold abandonedFill
    by_cases hwords : s.fills[f].parked = 0
    · rw [if_pos (hparked.trans hwords), if_pos hwords, hgeneration]
    · rw [if_neg fun h => hwords (hparked.symm.trans h), if_neg hwords]
  · rw [if_neg hgone, if_neg fun h => hgone (mem_abandons.2 h)]

/-- A directory entry after step 4, as the statement says it. -/
theorem damagedEntry_iff {j : Nat} : (∃ f ∈ fillsOf s w, abandons s f = true ∧ (s.cfg w).dirIndex s.fills[f].record = j)
    ↔ ∃ f : FillNo, ((s.fills[f].window = w ∧ s.fills[f].state ≠ .free) ∧ s.fills[f].abandoned = false
      ∧ covers (s.cfg w).guardLen.toNat s.fills[f].coverage = false) ∧ (s.cfg w).dirIndex s.fills[f].record = j :=
  exists_congr fun f => by rw [← mem_abandons, and_assoc]

/-- Settles O32: the steps of the forced drain one after another, then the completion of what is left. -/
theorem drainExpiryForces : Obligations.DrainExpiryForces := by
  intro s w hcoherent hdir hstate
  have hdecoded : s.windows[w].decoded = true := by simp only [Window.decoded, hstate]
  let hs := holdsInForce s w
  let fs := fillsOf s w
  let as := (freeOrder s.freeCount fs).filter (abandons s)
  obtain ⟨z, hzmade⟩ : ∃ z, z = drainAbandoned w s := ⟨_, rfl⟩
  let e := drainForcedReport w (hs.length + fs.length)
  obtain ⟨x, hxmade⟩ : ∃ x, x = report e z := ⟨_, rfl⟩
  obtain ⟨t, htmade⟩ : ∃ t, t = drainTest w x := ⟨_, rfl⟩
  obtain ⟨hbwindows, hbcfg, hbholds, hbslots, -⟩ := drainBroken_spec w s
  obtain ⟨hzfills, hzpark, hyfills, hzdirectory, hzcounters, hzreports, hzreqs, hz⟩ :=
    drainAbandoned_spec hcoherent hdir hdecoded hzmade
  have hx : x = { z with events := x.events, alertLow := x.alertLow } := by
    rw [hxmade]
    exact report_writes e z
  have hxz : x.windows = z.windows ∧ x.holds = z.holds ∧ x.fills = z.fills ∧ x.park = z.park ∧ x.directory = z.directory
      ∧ x.counters = z.counters ∧ x.slots = z.slots := by
    rw [hx]
    exact ⟨rfl, rfl, rfl, rfl, rfl, rfl, rfl⟩
  obtain ⟨hxwindows, hxholds, hxfills, hxpark, hxdirectory, hxcounters, hxslots⟩ := hxz
  have hzw : z.windows = s.windows.set w s.windows[w].force ∧ z.holds = (drainBroken w s).holds
      ∧ z.slots = (drainBroken w s).slots ∧ z.timeBase = s.timeBase := by
    rw [hz]
    exact ⟨hbwindows, rfl, rfl, rfl⟩
  obtain ⟨hzwindows, hzholds, hzslots, hzclock⟩ := hzw
  have hforced : s.windows[w].force = { s.windows[w] with state := .draining 0 true } := by simp only [Window.force, hstate]
  have hwindow : x.windows[w] = { s.windows[w] with state := .draining 0 true } := by
    rw [hxwindows, hzwindows, hforced]
    exact getElem_set_same _ _ _
  obtain ⟨houtcome, hoff, htwindows, htholds, htreports⟩ :=
    drainTest_outcome (by rw [hwindow]) htmade
  have ht : t = { x with
      lanes := t.lanes, windows := t.windows, holds := t.holds, pendingSweeps := t.pendingSweeps, sweep := t.sweep
      events := t.events, alertLow := t.alertLow } := by
    rw [htmade]
    exact drainTest_writes w x
  have htx : t.fills = x.fills ∧ t.park = x.park ∧ t.directory = x.directory ∧ t.counters = x.counters ∧ t.slots = x.slots := by
    rw [ht]
    exact ⟨rfl, rfl, rfl, rfl, rfl⟩
  obtain ⟨htfills, htpark, htdirectory, htcounters, htslots⟩ := htx
  have hhold (i : HoldNo) : x.holds[i] = if i ∈ hs then brokenBy s .drain s.holds[i] else s.holds[i] := by
    rw [hxholds, hzholds]
    exact hbholds i
  have hfill (f : FillNo) : t.fills[f] = if f ∈ fs ∧ abandons s f = true then abandonedFill (drainActive s fs f)
      else drainActive s fs f := by
    rw [htfills, hxfills]
    exact hzfills f
  have hnone : holdsInForce x w = [] := holdsInForce_of_broken hhold
  refine ⟨t, ?runs, ?inForce, fun f hw => ?waiting, houtcome, ?off, fun i => ?holds, ?slots,
    fun f => ?fills, fun j => ?directory, ?park, ⟨hs, fs, as, tableAll_nodup _ _, fillsOf_nodup,
      (freeOrder_nodup fillsOf_nodup).filter _, fun i => ?named, fun f => ?opened, fun f => ?gone, ?counters, ?reports⟩,
    fun v hv => ?others, ?window, fun m => ?requests, ?frame⟩
  case runs => rw [exec_drainCountdownExpiry hstate, forceDrain_eq, htmade, hxmade, hzmade]
  case inForce => exact holdsInForce_of_leaveService hnone htholds
  case waiting => exact not_waiting_of_drained (hfill f) hw
  case off =>
    rw [hoff, windowComplete_iff, fillsOf, fillsOf, htfills, htpark]
    exact ⟨fun ⟨_, h⟩ => h, fun h => ⟨hnone, h⟩⟩
  case holds =>
    intro h
    rw [htholds, (hhold i).trans (brokenForDrain_eq s w i)]
    exact leaveServiceIf_eq w h
  case slots =>
    have hstep : SlotStep (drainBroken w s) x := .of_eq (hxslots.trans hzslots) (hxholds.trans hzholds)
    exact (hbslots.trans (hstep.trans (slotStep_of_leaveService htslots htholds))).1
  case fills =>
    rw [hfill, drainedFill_eq, drainActive_eq]
    rfl
  case directory =>
    rw [htdirectory, hxdirectory, hzdirectory]
    simp only [damagedEntry_iff]
  case park =>
    rw [htpark, hxpark, hzpark]
    refine List.map_congr_left fun e _ => ?_
    cases he : e.fill with
    | none => exact parkAfter_of_none he
    | some ref => exact parkAfter_drained hyfills he
  case named => exact mem_holdsInForce.trans and_comm
  case opened => exact mem_fillsOf.trans and_comm
  case gone =>
    rw [List.mem_filter, mem_freeOrder]
    exact mem_abandons
  case counters => exact htcounters.trans (hxcounters.trans hzcounters)
  case reports =>
    have hxclock : x.timeBase = z.timeBase := by rw [hx]
    have hxreports : ReportedAll [e] z x := by
      rw [hxmade]
      exact ⟨rfl, rfl⟩
    exact reportedAll_append hzreports hzclock (reportedAll_append hxreports hxclock htreports)
  case others =>
    rw [htwindows, getElem_set_other _ _ _ _ hv.symm, hxwindows, hzwindows, getElem_set_other _ _ _ _ hv.symm]
  case window =>
    have hget := congrArg (fun windows : Vector Window 16 => windows[w]) htwindows
    refine hget.trans ((getElem_set_same _ _ _).trans ?_)
    rw [hwindow]
  case requests =>
    rw [htmade, sameRequests_drainTest, hxmade, sameRequests_report]
    exact hzreqs m
  case frame => exact forceDrain_frame hz hx ht

end

end Sys2Proof.Machine
end
